-- ==== Sys2Proof/Word.lean ====
section
/-! DEFINITION. The two word types of the core: the 8-bit byte of a register, a memory cell or a port,
and the 16-bit word of SP, PC, a register pair or an address (00_scope.md R9, R10, R11).
Every value is an unsigned bit pattern; `+` and `-` on these types wrap, as R10 asks. -/

namespace Sys2Proof

/-- An 8-bit value: a general register, a memory byte, an immediate byte, a port byte or a port number (R9, R203). -/
abbrev Byte := BitVec 8

/-- A 16-bit value: SP, PC, a register pair, an address or an immediate word (R9, R112, R113). -/
abbrev Word := BitVec 16

end Sys2Proof
end

