-- ==== Sys2Proof/Syntax.lean ====
section
/-! DEFINITION. The instructions: ONE inductive, one constructor per mnemonic of spec/opcode_table.json
(its 256 rows hold 244 mnemonics: the twelve undocumented opcodes of 30_encoding.md R321 carry the mnemonic of the
instruction they execute as, and R324 decodes them to it). Immediates are the only operands a row leaves open
(R308): a byte `v` (d8), a port number (p8), a word `v` (d16) or a direct address (a16).
The operands that the opcode byte fixes are read off a constructor by `Instr.form` (Sys2Proof/Decode.lean). -/

namespace Sys2Proof

/-- The decoded instruction (30_encoding.md R323), one constructor per mnemonic of spec/opcode_table.json. -/
inductive Instr where
  -- Data transfer (40_data_transfer.md)
  | lxiB (v : Word)  -- LXI B,d16 (0x01), R405
  | staxB  -- STAX B (0x02), R411
  | mviB (v : Byte)  -- MVI B,d8 (0x06), R403
  | ldaxB  -- LDAX B (0x0A), R410
  | mviC (v : Byte)  -- MVI C,d8 (0x0E), R403
  | lxiD (v : Word)  -- LXI D,d16 (0x11), R405
  | staxD  -- STAX D (0x12), R411
  | mviD (v : Byte)  -- MVI D,d8 (0x16), R403
  | ldaxD  -- LDAX D (0x1A), R410
  | mviE (v : Byte)  -- MVI E,d8 (0x1E), R403
  | lxiH (v : Word)  -- LXI H,d16 (0x21), R405
  | shld (addr : Word)  -- SHLD a16 (0x22), R409
  | mviH (v : Byte)  -- MVI H,d8 (0x26), R403
  | lhld (addr : Word)  -- LHLD a16 (0x2A), R408
  | mviL (v : Byte)  -- MVI L,d8 (0x2E), R403
  | lxiSp (v : Word)  -- LXI SP,d16 (0x31), R405
  | sta (addr : Word)  -- STA a16 (0x32), R407
  | mviM (v : Byte)  -- MVI M,d8 (0x36), R404
  | lda (addr : Word)  -- LDA a16 (0x3A), R406
  | mviA (v : Byte)  -- MVI A,d8 (0x3E), R403
  | movBB  -- MOV B,B (0x40), R400
  | movBC  -- MOV B,C (0x41), R400
  | movBD  -- MOV B,D (0x42), R400
  | movBE  -- MOV B,E (0x43), R400
  | movBH  -- MOV B,H (0x44), R400
  | movBL  -- MOV B,L (0x45), R400
  | movBM  -- MOV B,M (0x46), R401
  | movBA  -- MOV B,A (0x47), R400
  | movCB  -- MOV C,B (0x48), R400
  | movCC  -- MOV C,C (0x49), R400
  | movCD  -- MOV C,D (0x4A), R400
  | movCE  -- MOV C,E (0x4B), R400
  | movCH  -- MOV C,H (0x4C), R400
  | movCL  -- MOV C,L (0x4D), R400
  | movCM  -- MOV C,M (0x4E), R401
  | movCA  -- MOV C,A (0x4F), R400
  | movDB  -- MOV D,B (0x50), R400
  | movDC  -- MOV D,C (0x51), R400
  | movDD  -- MOV D,D (0x52), R400
  | movDE  -- MOV D,E (0x53), R400
  | movDH  -- MOV D,H (0x54), R400
  | movDL  -- MOV D,L (0x55), R400
  | movDM  -- MOV D,M (0x56), R401
  | movDA  -- MOV D,A (0x57), R400
  | movEB  -- MOV E,B (0x58), R400
  | movEC  -- MOV E,C (0x59), R400
  | movED  -- MOV E,D (0x5A), R400
  | movEE  -- MOV E,E (0x5B), R400
  | movEH  -- MOV E,H (0x5C), R400
  | movEL  -- MOV E,L (0x5D), R400
  | movEM  -- MOV E,M (0x5E), R401
  | movEA  -- MOV E,A (0x5F), R400
  | movHB  -- MOV H,B (0x60), R400
  | movHC  -- MOV H,C (0x61), R400
  | movHD  -- MOV H,D (0x62), R400
  | movHE  -- MOV H,E (0x63), R400
  | movHH  -- MOV H,H (0x64), R400
  | movHL  -- MOV H,L (0x65), R400
  | movHM  -- MOV H,M (0x66), R401
  | movHA  -- MOV H,A (0x67), R400
  | movLB  -- MOV L,B (0x68), R400
  | movLC  -- MOV L,C (0x69), R400
  | movLD  -- MOV L,D (0x6A), R400
  | movLE  -- MOV L,E (0x6B), R400
  | movLH  -- MOV L,H (0x6C), R400
  | movLL  -- MOV L,L (0x6D), R400
  | movLM  -- MOV L,M (0x6E), R401
  | movLA  -- MOV L,A (0x6F), R400
  | movMB  -- MOV M,B (0x70), R402
  | movMC  -- MOV M,C (0x71), R402
  | movMD  -- MOV M,D (0x72), R402
  | movME  -- MOV M,E (0x73), R402
  | movMH  -- MOV M,H (0x74), R402
  | movML  -- MOV M,L (0x75), R402
  | movMA  -- MOV M,A (0x77), R402
  | movAB  -- MOV A,B (0x78), R400
  | movAC  -- MOV A,C (0x79), R400
  | movAD  -- MOV A,D (0x7A), R400
  | movAE  -- MOV A,E (0x7B), R400
  | movAH  -- MOV A,H (0x7C), R400
  | movAL  -- MOV A,L (0x7D), R400
  | movAM  -- MOV A,M (0x7E), R401
  | movAA  -- MOV A,A (0x7F), R400
  | xchg  -- XCHG (0xEB), R412
  -- Arithmetic (41_arithmetic.md)
  | inxB  -- INX B (0x03), R530
  | inrB  -- INR B (0x04), R522
  | dcrB  -- DCR B (0x05), R524
  | dadB  -- DAD B (0x09), R532
  | dcxB  -- DCX B (0x0B), R531
  | inrC  -- INR C (0x0C), R522
  | dcrC  -- DCR C (0x0D), R524
  | inxD  -- INX D (0x13), R530
  | inrD  -- INR D (0x14), R522
  | dcrD  -- DCR D (0x15), R524
  | dadD  -- DAD D (0x19), R532
  | dcxD  -- DCX D (0x1B), R531
  | inrE  -- INR E (0x1C), R522
  | dcrE  -- DCR E (0x1D), R524
  | inxH  -- INX H (0x23), R530
  | inrH  -- INR H (0x24), R522
  | dcrH  -- DCR H (0x25), R524
  | daa  -- DAA (0x27), R540
  | dadH  -- DAD H (0x29), R532
  | dcxH  -- DCX H (0x2B), R531
  | inrL  -- INR L (0x2C), R522
  | dcrL  -- DCR L (0x2D), R524
  | inxSp  -- INX SP (0x33), R530
  | inrM  -- INR M (0x34), R523
  | dcrM  -- DCR M (0x35), R525
  | dadSp  -- DAD SP (0x39), R532
  | dcxSp  -- DCX SP (0x3B), R531
  | inrA  -- INR A (0x3C), R522
  | dcrA  -- DCR A (0x3D), R524
  | addB  -- ADD B (0x80), R510
  | addC  -- ADD C (0x81), R510
  | addD  -- ADD D (0x82), R510
  | addE  -- ADD E (0x83), R510
  | addH  -- ADD H (0x84), R510
  | addL  -- ADD L (0x85), R510
  | addM  -- ADD M (0x86), R511
  | addA  -- ADD A (0x87), R510
  | adcB  -- ADC B (0x88), R513
  | adcC  -- ADC C (0x89), R513
  | adcD  -- ADC D (0x8A), R513
  | adcE  -- ADC E (0x8B), R513
  | adcH  -- ADC H (0x8C), R513
  | adcL  -- ADC L (0x8D), R513
  | adcM  -- ADC M (0x8E), R514
  | adcA  -- ADC A (0x8F), R513
  | subB  -- SUB B (0x90), R516
  | subC  -- SUB C (0x91), R516
  | subD  -- SUB D (0x92), R516
  | subE  -- SUB E (0x93), R516
  | subH  -- SUB H (0x94), R516
  | subL  -- SUB L (0x95), R516
  | subM  -- SUB M (0x96), R517
  | subA  -- SUB A (0x97), R516
  | sbbB  -- SBB B (0x98), R519
  | sbbC  -- SBB C (0x99), R519
  | sbbD  -- SBB D (0x9A), R519
  | sbbE  -- SBB E (0x9B), R519
  | sbbH  -- SBB H (0x9C), R519
  | sbbL  -- SBB L (0x9D), R519
  | sbbM  -- SBB M (0x9E), R520
  | sbbA  -- SBB A (0x9F), R519
  | adi (v : Byte)  -- ADI d8 (0xC6), R512
  | aci (v : Byte)  -- ACI d8 (0xCE), R515
  | sui (v : Byte)  -- SUI d8 (0xD6), R518
  | sbi (v : Byte)  -- SBI d8 (0xDE), R521
  -- Logical, compare, rotate and flag (42_logical.md)
  | rlc  -- RLC (0x07), R630
  | rrc  -- RRC (0x0F), R631
  | ral  -- RAL (0x17), R632
  | rar  -- RAR (0x1F), R633
  | cma  -- CMA (0x2F), R640
  | stc  -- STC (0x37), R642
  | cmc  -- CMC (0x3F), R641
  | anaB  -- ANA B (0xA0), R610
  | anaC  -- ANA C (0xA1), R610
  | anaD  -- ANA D (0xA2), R610
  | anaE  -- ANA E (0xA3), R610
  | anaH  -- ANA H (0xA4), R610
  | anaL  -- ANA L (0xA5), R610
  | anaM  -- ANA M (0xA6), R611
  | anaA  -- ANA A (0xA7), R610
  | xraB  -- XRA B (0xA8), R613
  | xraC  -- XRA C (0xA9), R613
  | xraD  -- XRA D (0xAA), R613
  | xraE  -- XRA E (0xAB), R613
  | xraH  -- XRA H (0xAC), R613
  | xraL  -- XRA L (0xAD), R613
  | xraM  -- XRA M (0xAE), R614
  | xraA  -- XRA A (0xAF), R613
  | oraB  -- ORA B (0xB0), R616
  | oraC  -- ORA C (0xB1), R616
  | oraD  -- ORA D (0xB2), R616
  | oraE  -- ORA E (0xB3), R616
  | oraH  -- ORA H (0xB4), R616
  | oraL  -- ORA L (0xB5), R616
  | oraM  -- ORA M (0xB6), R617
  | oraA  -- ORA A (0xB7), R616
  | cmpB  -- CMP B (0xB8), R619
  | cmpC  -- CMP C (0xB9), R619
  | cmpD  -- CMP D (0xBA), R619
  | cmpE  -- CMP E (0xBB), R619
  | cmpH  -- CMP H (0xBC), R619
  | cmpL  -- CMP L (0xBD), R619
  | cmpM  -- CMP M (0xBE), R620
  | cmpA  -- CMP A (0xBF), R619
  | ani (v : Byte)  -- ANI d8 (0xE6), R612
  | xri (v : Byte)  -- XRI d8 (0xEE), R615
  | ori (v : Byte)  -- ORI d8 (0xF6), R618
  | cpi (v : Byte)  -- CPI d8 (0xFE), R621
  -- Branch, call, return and restart (43_branch.md)
  | rnz  -- RNZ (0xC0), R706
  | jnz (addr : Word)  -- JNZ a16 (0xC2), R702
  | jmp (addr : Word)  -- JMP a16 (0xC3, 0xCB), R701
  | cnz (addr : Word)  -- CNZ a16 (0xC4), R704
  | rst0  -- RST 0 (0xC7), R707
  | rz  -- RZ (0xC8), R706
  | ret  -- RET (0xC9, 0xD9), R705
  | jz (addr : Word)  -- JZ a16 (0xCA), R702
  | cz (addr : Word)  -- CZ a16 (0xCC), R704
  | call (addr : Word)  -- CALL a16 (0xCD, 0xDD, 0xED, 0xFD), R703
  | rst1  -- RST 1 (0xCF), R707
  | rnc  -- RNC (0xD0), R706
  | jnc (addr : Word)  -- JNC a16 (0xD2), R702
  | cnc (addr : Word)  -- CNC a16 (0xD4), R704
  | rst2  -- RST 2 (0xD7), R707
  | rc  -- RC (0xD8), R706
  | jc (addr : Word)  -- JC a16 (0xDA), R702
  | cc (addr : Word)  -- CC a16 (0xDC), R704
  | rst3  -- RST 3 (0xDF), R707
  | rpo  -- RPO (0xE0), R706
  | jpo (addr : Word)  -- JPO a16 (0xE2), R702
  | cpo (addr : Word)  -- CPO a16 (0xE4), R704
  | rst4  -- RST 4 (0xE7), R707
  | rpe  -- RPE (0xE8), R706
  | pchl  -- PCHL (0xE9), R708
  | jpe (addr : Word)  -- JPE a16 (0xEA), R702
  | cpe (addr : Word)  -- CPE a16 (0xEC), R704
  | rst5  -- RST 5 (0xEF), R707
  | rp  -- RP (0xF0), R706
  | jp (addr : Word)  -- JP a16 (0xF2), R702
  | cp (addr : Word)  -- CP a16 (0xF4), R704
  | rst6  -- RST 6 (0xF7), R707
  | rm  -- RM (0xF8), R706
  | jm (addr : Word)  -- JM a16 (0xFA), R702
  | cm (addr : Word)  -- CM a16 (0xFC), R704
  | rst7  -- RST 7 (0xFF), R707
  -- Stack, I/O and machine control (44_stack_io_machine.md)
  | nop  -- NOP (0x00, 0x08, 0x10, 0x18, 0x20, 0x28, 0x30, 0x38), R814
  | hlt  -- HLT (0x76), R813
  | popB  -- POP B (0xC1), R805
  | pushB  -- PUSH B (0xC5), R803
  | popD  -- POP D (0xD1), R805
  | out (port : Byte)  -- OUT d8 (0xD3), R810
  | pushD  -- PUSH D (0xD5), R803
  | inp (port : Byte)  -- IN d8 (0xDB), R809
  | popH  -- POP H (0xE1), R805
  | xthl  -- XTHL (0xE3), R807
  | pushH  -- PUSH H (0xE5), R803
  | popPsw  -- POP PSW (0xF1), R806
  | di  -- DI (0xF3), R812
  | pushPsw  -- PUSH PSW (0xF5), R804
  | sphl  -- SPHL (0xF9), R808
  | ei  -- EI (0xFB), R811
deriving DecidableEq, Repr

end Sys2Proof
end

