-- ==== Sys2Proof/Decode.lean ====
section
/-! DEFINITION. Decoding and encoding (30_encoding.md). The operand names and the decoded operand forms of R303 to
R309 and R323; the fields of the opcode byte (R301); `decodeForm`, total on every opcode byte (R322, R324); the
decoder of a byte stream, which rejects by name a stream that ends inside an instruction; and, after it, the
encoder, written from the formats of R302. -/

namespace Sys2Proof

/-! ## Bytes of a word (R10, R208) -/

/-- `v[15:8]` of a word. -/
def hiByte (w : Word) : Byte := w.extractLsb' 8 8

/-- `v[7:0]` of a word. -/
def loByte (w : Word) : Byte := w.extractLsb' 0 8

/-- `hi:lo`, the 16-bit concatenation `hi*256 + lo` (R10). -/
def ofBytes (hi lo : Byte) : Word := hi ++ lo

/-! ## Operand names (R303 to R306, R323) -/

/-- `Reg8`: the seven 8-bit general registers (R100, R323). -/
inductive Reg8 where
  | b | c | d | e | h | l | a
deriving DecidableEq, Repr

/-- What a register field code names: a register, or M, the byte at HL (R303). -/
inductive Operand8 where
  | reg (r : Reg8)
  | mem
deriving DecidableEq, Repr

/-- `RP`: the pair operand of LXI, INX, DCX and DAD (R304, R323). -/
inductive RegPair where
  | bc | de | hl | sp
deriving DecidableEq, Repr

/-- `RPS`: the pair operand of PUSH and POP (R304, R323). -/
inductive StackPair where
  | bc | de | hl | psw
deriving DecidableEq, Repr

/-- `RPX`: the pair operand of LDAX and STAX (R304, R323). -/
inductive IndirectPair where
  | bc | de
deriving DecidableEq, Repr

/-- The conditions of Jcc, Ccc and Rcc (R305). -/
inductive Cond where
  | nz | z | nc | c | po | pe | p | m
deriving DecidableEq, Repr

/-- The eight ALU operations, named by their register form (R306). -/
inductive AluOp where
  | add | adc | sub | sbb | ana | xra | ora | cmp
deriving DecidableEq, Repr

/-- The decoded instruction with its operands as R323 gives its variants (the ALU variants grouped by R306's
operation and R500's operand source). Every constructor of Instr has one form, `Instr.form`. -/
inductive Form where
  | movRR (dst src : Reg8)
  | movRM (dst : Reg8)
  | movMR (src : Reg8)
  | mviR (dst : Reg8) (v : Byte)
  | mviM (v : Byte)
  | lxi (rp : RegPair) (v : Word)
  | lda (addr : Word)
  | sta (addr : Word)
  | lhld (addr : Word)
  | shld (addr : Word)
  | ldax (rp : IndirectPair)
  | stax (rp : IndirectPair)
  | xchg
  | alu (op : AluOp) (x : Operand8)
  | aluImm (op : AluOp) (v : Byte)
  | inr (x : Operand8)
  | dcr (x : Operand8)
  | inx (rp : RegPair)
  | dcx (rp : RegPair)
  | dad (rp : RegPair)
  | daa
  | rlc
  | rrc
  | ral
  | rar
  | cma
  | cmc
  | stc
  | jmp (addr : Word)
  | jcc (cc : Cond) (addr : Word)
  | call (addr : Word)
  | ccc (cc : Cond) (addr : Word)
  | ret
  | rcc (cc : Cond)
  | rst (n : Fin 8)
  | pchl
  | push (rp : StackPair)
  | pop (rp : StackPair)
  | xthl
  | sphl
  | inp (port : Byte)
  | out (port : Byte)
  | ei
  | di
  | hlt
  | nop
deriving DecidableEq, Repr

/-! ## From a form to its constructor -/

/-- The constructor of `MOV d,s` (R400). -/
def movRRInstr (dst src : Reg8) : Instr :=
  match dst, src with
  | .b, .b => .movBB | .b, .c => .movBC | .b, .d => .movBD | .b, .e => .movBE | .b, .h => .movBH | .b, .l => .movBL | .b, .a => .movBA
  | .c, .b => .movCB | .c, .c => .movCC | .c, .d => .movCD | .c, .e => .movCE | .c, .h => .movCH | .c, .l => .movCL | .c, .a => .movCA
  | .d, .b => .movDB | .d, .c => .movDC | .d, .d => .movDD | .d, .e => .movDE | .d, .h => .movDH | .d, .l => .movDL | .d, .a => .movDA
  | .e, .b => .movEB | .e, .c => .movEC | .e, .d => .movED | .e, .e => .movEE | .e, .h => .movEH | .e, .l => .movEL | .e, .a => .movEA
  | .h, .b => .movHB | .h, .c => .movHC | .h, .d => .movHD | .h, .e => .movHE | .h, .h => .movHH | .h, .l => .movHL | .h, .a => .movHA
  | .l, .b => .movLB | .l, .c => .movLC | .l, .d => .movLD | .l, .e => .movLE | .l, .h => .movLH | .l, .l => .movLL | .l, .a => .movLA
  | .a, .b => .movAB | .a, .c => .movAC | .a, .d => .movAD | .a, .e => .movAE | .a, .h => .movAH | .a, .l => .movAL | .a, .a => .movAA

/-- The constructor of `MOV d,M` (R401). -/
def movRMInstr (x : Reg8) : Instr :=
  match x with
  | .b => .movBM | .c => .movCM | .d => .movDM | .e => .movEM | .h => .movHM | .l => .movLM | .a => .movAM

/-- The constructor of `MOV M,s` (R402). -/
def movMRInstr (x : Reg8) : Instr :=
  match x with
  | .b => .movMB | .c => .movMC | .d => .movMD | .e => .movME | .h => .movMH | .l => .movML | .a => .movMA

/-- The constructor of `MVI d,d8` (R403). -/
def mviRInstr (x : Reg8) (v : Byte) : Instr :=
  match x with
  | .b => .mviB v | .c => .mviC v | .d => .mviD v | .e => .mviE v | .h => .mviH v | .l => .mviL v | .a => .mviA v

/-- The constructor of `LXI rp,d16` (R405). -/
def lxiInstr (x : RegPair) (v : Word) : Instr :=
  match x with
  | .bc => .lxiB v | .de => .lxiD v | .hl => .lxiH v | .sp => .lxiSp v

/-- The constructor of `INX rp` (R530). -/
def inxInstr (x : RegPair) : Instr :=
  match x with
  | .bc => .inxB | .de => .inxD | .hl => .inxH | .sp => .inxSp

/-- The constructor of `DCX rp` (R531). -/
def dcxInstr (x : RegPair) : Instr :=
  match x with
  | .bc => .dcxB | .de => .dcxD | .hl => .dcxH | .sp => .dcxSp

/-- The constructor of `DAD rp` (R532). -/
def dadInstr (x : RegPair) : Instr :=
  match x with
  | .bc => .dadB | .de => .dadD | .hl => .dadH | .sp => .dadSp

/-- The constructor of `LDAX rp` (R410). -/
def ldaxInstr (x : IndirectPair) : Instr :=
  match x with
  | .bc => .ldaxB | .de => .ldaxD

/-- The constructor of `STAX rp` (R411). -/
def staxInstr (x : IndirectPair) : Instr :=
  match x with
  | .bc => .staxB | .de => .staxD

/-- The constructor of `PUSH rp` (R803, R804). -/
def pushInstr (x : StackPair) : Instr :=
  match x with
  | .bc => .pushB | .de => .pushD | .hl => .pushH | .psw => .pushPsw

/-- The constructor of `POP rp` (R805, R806). -/
def popInstr (x : StackPair) : Instr :=
  match x with
  | .bc => .popB | .de => .popD | .hl => .popH | .psw => .popPsw

/-- The constructor of `INR` on a register or on M (R522, R523). -/
def inrInstr (x : Operand8) : Instr :=
  match x with
  | .reg .b => .inrB | .reg .c => .inrC | .reg .d => .inrD | .reg .e => .inrE | .reg .h => .inrH | .reg .l => .inrL | .reg .a => .inrA | .mem => .inrM

/-- The constructor of `DCR` on a register or on M (R524, R525). -/
def dcrInstr (x : Operand8) : Instr :=
  match x with
  | .reg .b => .dcrB | .reg .c => .dcrC | .reg .d => .dcrD | .reg .e => .dcrE | .reg .h => .dcrH | .reg .l => .dcrL | .reg .a => .dcrA | .mem => .dcrM

/-- The constructor of an ALU instruction on a register or on M (R306, R510 to R520, R610 to R620). -/
def aluInstr (op : AluOp) (x : Operand8) : Instr :=
  match op, x with
  | .add, .reg .b => .addB | .add, .reg .c => .addC | .add, .reg .d => .addD | .add, .reg .e => .addE | .add, .reg .h => .addH | .add, .reg .l => .addL | .add, .reg .a => .addA | .add, .mem => .addM
  | .adc, .reg .b => .adcB | .adc, .reg .c => .adcC | .adc, .reg .d => .adcD | .adc, .reg .e => .adcE | .adc, .reg .h => .adcH | .adc, .reg .l => .adcL | .adc, .reg .a => .adcA | .adc, .mem => .adcM
  | .sub, .reg .b => .subB | .sub, .reg .c => .subC | .sub, .reg .d => .subD | .sub, .reg .e => .subE | .sub, .reg .h => .subH | .sub, .reg .l => .subL | .sub, .reg .a => .subA | .sub, .mem => .subM
  | .sbb, .reg .b => .sbbB | .sbb, .reg .c => .sbbC | .sbb, .reg .d => .sbbD | .sbb, .reg .e => .sbbE | .sbb, .reg .h => .sbbH | .sbb, .reg .l => .sbbL | .sbb, .reg .a => .sbbA | .sbb, .mem => .sbbM
  | .ana, .reg .b => .anaB | .ana, .reg .c => .anaC | .ana, .reg .d => .anaD | .ana, .reg .e => .anaE | .ana, .reg .h => .anaH | .ana, .reg .l => .anaL | .ana, .reg .a => .anaA | .ana, .mem => .anaM
  | .xra, .reg .b => .xraB | .xra, .reg .c => .xraC | .xra, .reg .d => .xraD | .xra, .reg .e => .xraE | .xra, .reg .h => .xraH | .xra, .reg .l => .xraL | .xra, .reg .a => .xraA | .xra, .mem => .xraM
  | .ora, .reg .b => .oraB | .ora, .reg .c => .oraC | .ora, .reg .d => .oraD | .ora, .reg .e => .oraE | .ora, .reg .h => .oraH | .ora, .reg .l => .oraL | .ora, .reg .a => .oraA | .ora, .mem => .oraM
  | .cmp, .reg .b => .cmpB | .cmp, .reg .c => .cmpC | .cmp, .reg .d => .cmpD | .cmp, .reg .e => .cmpE | .cmp, .reg .h => .cmpH | .cmp, .reg .l => .cmpL | .cmp, .reg .a => .cmpA | .cmp, .mem => .cmpM

/-- The constructor of an ALU instruction on an immediate byte (R306). -/
def aluImmInstr (op : AluOp) (v : Byte) : Instr :=
  match op with
  | .add => .adi v | .adc => .aci v | .sub => .sui v | .sbb => .sbi v | .ana => .ani v | .xra => .xri v | .ora => .ori v | .cmp => .cpi v

/-- The constructor of a conditional instruction (R702). -/
def jccInstr (x : Cond) (addr : Word) : Instr :=
  match x with
  | .nz => .jnz addr | .z => .jz addr | .nc => .jnc addr | .c => .jc addr | .po => .jpo addr | .pe => .jpe addr | .p => .jp addr | .m => .jm addr

/-- The constructor of a conditional instruction (R704). -/
def cccInstr (x : Cond) (addr : Word) : Instr :=
  match x with
  | .nz => .cnz addr | .z => .cz addr | .nc => .cnc addr | .c => .cc addr | .po => .cpo addr | .pe => .cpe addr | .p => .cp addr | .m => .cm addr

/-- The constructor of a conditional instruction (R706). -/
def rccInstr (x : Cond) : Instr :=
  match x with
  | .nz => .rnz | .z => .rz | .nc => .rnc | .c => .rc | .po => .rpo | .pe => .rpe | .p => .rp | .m => .rm

/-- The constructor of `RST n` (R707). -/
def rstInstr (n : Fin 8) : Instr :=
  match n with
  | 0 => .rst0 | 1 => .rst1 | 2 => .rst2 | 3 => .rst3 | 4 => .rst4 | 5 => .rst5 | 6 => .rst6 | 7 => .rst7

/-- The constructor of Instr that an operand form stands for. -/
def Form.instr (f : Form) : Instr :=
  match f with
  | .movRR dst src => movRRInstr dst src
  | .movRM dst => movRMInstr dst
  | .movMR src => movMRInstr src
  | .mviR dst v => mviRInstr dst v
  | .mviM v => .mviM v
  | .lxi rp v => lxiInstr rp v
  | .lda addr => .lda addr
  | .sta addr => .sta addr
  | .lhld addr => .lhld addr
  | .shld addr => .shld addr
  | .ldax rp => ldaxInstr rp
  | .stax rp => staxInstr rp
  | .xchg => .xchg
  | .alu op x => aluInstr op x
  | .aluImm op v => aluImmInstr op v
  | .inr x => inrInstr x
  | .dcr x => dcrInstr x
  | .inx rp => inxInstr rp
  | .dcx rp => dcxInstr rp
  | .dad rp => dadInstr rp
  | .daa => .daa
  | .rlc => .rlc
  | .rrc => .rrc
  | .ral => .ral
  | .rar => .rar
  | .cma => .cma
  | .cmc => .cmc
  | .stc => .stc
  | .jmp addr => .jmp addr
  | .jcc cc addr => jccInstr cc addr
  | .call addr => .call addr
  | .ccc cc addr => cccInstr cc addr
  | .ret => .ret
  | .rcc cc => rccInstr cc
  | .rst n => rstInstr n
  | .pchl => .pchl
  | .push rp => pushInstr rp
  | .pop rp => popInstr rp
  | .xthl => .xthl
  | .sphl => .sphl
  | .inp port => .inp port
  | .out port => .out port
  | .ei => .ei
  | .di => .di
  | .hlt => .hlt
  | .nop => .nop

/-! ## From a constructor to its form -/

/-- The operand form of an instruction: its constructor's operands, those the opcode byte fixes among them
(R309, R323). -/
def Instr.form (i : Instr) : Form :=
  match i with
  | .lxiB v => .lxi .bc v
  | .staxB => .stax .bc
  | .mviB v => .mviR .b v
  | .ldaxB => .ldax .bc
  | .mviC v => .mviR .c v
  | .lxiD v => .lxi .de v
  | .staxD => .stax .de
  | .mviD v => .mviR .d v
  | .ldaxD => .ldax .de
  | .mviE v => .mviR .e v
  | .lxiH v => .lxi .hl v
  | .shld addr => .shld addr
  | .mviH v => .mviR .h v
  | .lhld addr => .lhld addr
  | .mviL v => .mviR .l v
  | .lxiSp v => .lxi .sp v
  | .sta addr => .sta addr
  | .mviM v => .mviM v
  | .lda addr => .lda addr
  | .mviA v => .mviR .a v
  | .movBB => .movRR .b .b
  | .movBC => .movRR .b .c
  | .movBD => .movRR .b .d
  | .movBE => .movRR .b .e
  | .movBH => .movRR .b .h
  | .movBL => .movRR .b .l
  | .movBM => .movRM .b
  | .movBA => .movRR .b .a
  | .movCB => .movRR .c .b
  | .movCC => .movRR .c .c
  | .movCD => .movRR .c .d
  | .movCE => .movRR .c .e
  | .movCH => .movRR .c .h
  | .movCL => .movRR .c .l
  | .movCM => .movRM .c
  | .movCA => .movRR .c .a
  | .movDB => .movRR .d .b
  | .movDC => .movRR .d .c
  | .movDD => .movRR .d .d
  | .movDE => .movRR .d .e
  | .movDH => .movRR .d .h
  | .movDL => .movRR .d .l
  | .movDM => .movRM .d
  | .movDA => .movRR .d .a
  | .movEB => .movRR .e .b
  | .movEC => .movRR .e .c
  | .movED => .movRR .e .d
  | .movEE => .movRR .e .e
  | .movEH => .movRR .e .h
  | .movEL => .movRR .e .l
  | .movEM => .movRM .e
  | .movEA => .movRR .e .a
  | .movHB => .movRR .h .b
  | .movHC => .movRR .h .c
  | .movHD => .movRR .h .d
  | .movHE => .movRR .h .e
  | .movHH => .movRR .h .h
  | .movHL => .movRR .h .l
  | .movHM => .movRM .h
  | .movHA => .movRR .h .a
  | .movLB => .movRR .l .b
  | .movLC => .movRR .l .c
  | .movLD => .movRR .l .d
  | .movLE => .movRR .l .e
  | .movLH => .movRR .l .h
  | .movLL => .movRR .l .l
  | .movLM => .movRM .l
  | .movLA => .movRR .l .a
  | .movMB => .movMR .b
  | .movMC => .movMR .c
  | .movMD => .movMR .d
  | .movME => .movMR .e
  | .movMH => .movMR .h
  | .movML => .movMR .l
  | .movMA => .movMR .a
  | .movAB => .movRR .a .b
  | .movAC => .movRR .a .c
  | .movAD => .movRR .a .d
  | .movAE => .movRR .a .e
  | .movAH => .movRR .a .h
  | .movAL => .movRR .a .l
  | .movAM => .movRM .a
  | .movAA => .movRR .a .a
  | .xchg => .xchg
  | .inxB => .inx .bc
  | .inrB => .inr (.reg .b)
  | .dcrB => .dcr (.reg .b)
  | .dadB => .dad .bc
  | .dcxB => .dcx .bc
  | .inrC => .inr (.reg .c)
  | .dcrC => .dcr (.reg .c)
  | .inxD => .inx .de
  | .inrD => .inr (.reg .d)
  | .dcrD => .dcr (.reg .d)
  | .dadD => .dad .de
  | .dcxD => .dcx .de
  | .inrE => .inr (.reg .e)
  | .dcrE => .dcr (.reg .e)
  | .inxH => .inx .hl
  | .inrH => .inr (.reg .h)
  | .dcrH => .dcr (.reg .h)
  | .daa => .daa
  | .dadH => .dad .hl
  | .dcxH => .dcx .hl
  | .inrL => .inr (.reg .l)
  | .dcrL => .dcr (.reg .l)
  | .inxSp => .inx .sp
  | .inrM => .inr .mem
  | .dcrM => .dcr .mem
  | .dadSp => .dad .sp
  | .dcxSp => .dcx .sp
  | .inrA => .inr (.reg .a)
  | .dcrA => .dcr (.reg .a)
  | .addB => .alu .add (.reg .b)
  | .addC => .alu .add (.reg .c)
  | .addD => .alu .add (.reg .d)
  | .addE => .alu .add (.reg .e)
  | .addH => .alu .add (.reg .h)
  | .addL => .alu .add (.reg .l)
  | .addM => .alu .add .mem
  | .addA => .alu .add (.reg .a)
  | .adcB => .alu .adc (.reg .b)
  | .adcC => .alu .adc (.reg .c)
  | .adcD => .alu .adc (.reg .d)
  | .adcE => .alu .adc (.reg .e)
  | .adcH => .alu .adc (.reg .h)
  | .adcL => .alu .adc (.reg .l)
  | .adcM => .alu .adc .mem
  | .adcA => .alu .adc (.reg .a)
  | .subB => .alu .sub (.reg .b)
  | .subC => .alu .sub (.reg .c)
  | .subD => .alu .sub (.reg .d)
  | .subE => .alu .sub (.reg .e)
  | .subH => .alu .sub (.reg .h)
  | .subL => .alu .sub (.reg .l)
  | .subM => .alu .sub .mem
  | .subA => .alu .sub (.reg .a)
  | .sbbB => .alu .sbb (.reg .b)
  | .sbbC => .alu .sbb (.reg .c)
  | .sbbD => .alu .sbb (.reg .d)
  | .sbbE => .alu .sbb (.reg .e)
  | .sbbH => .alu .sbb (.reg .h)
  | .sbbL => .alu .sbb (.reg .l)
  | .sbbM => .alu .sbb .mem
  | .sbbA => .alu .sbb (.reg .a)
  | .adi v => .aluImm .add v
  | .aci v => .aluImm .adc v
  | .sui v => .aluImm .sub v
  | .sbi v => .aluImm .sbb v
  | .rlc => .rlc
  | .rrc => .rrc
  | .ral => .ral
  | .rar => .rar
  | .cma => .cma
  | .stc => .stc
  | .cmc => .cmc
  | .anaB => .alu .ana (.reg .b)
  | .anaC => .alu .ana (.reg .c)
  | .anaD => .alu .ana (.reg .d)
  | .anaE => .alu .ana (.reg .e)
  | .anaH => .alu .ana (.reg .h)
  | .anaL => .alu .ana (.reg .l)
  | .anaM => .alu .ana .mem
  | .anaA => .alu .ana (.reg .a)
  | .xraB => .alu .xra (.reg .b)
  | .xraC => .alu .xra (.reg .c)
  | .xraD => .alu .xra (.reg .d)
  | .xraE => .alu .xra (.reg .e)
  | .xraH => .alu .xra (.reg .h)
  | .xraL => .alu .xra (.reg .l)
  | .xraM => .alu .xra .mem
  | .xraA => .alu .xra (.reg .a)
  | .oraB => .alu .ora (.reg .b)
  | .oraC => .alu .ora (.reg .c)
  | .oraD => .alu .ora (.reg .d)
  | .oraE => .alu .ora (.reg .e)
  | .oraH => .alu .ora (.reg .h)
  | .oraL => .alu .ora (.reg .l)
  | .oraM => .alu .ora .mem
  | .oraA => .alu .ora (.reg .a)
  | .cmpB => .alu .cmp (.reg .b)
  | .cmpC => .alu .cmp (.reg .c)
  | .cmpD => .alu .cmp (.reg .d)
  | .cmpE => .alu .cmp (.reg .e)
  | .cmpH => .alu .cmp (.reg .h)
  | .cmpL => .alu .cmp (.reg .l)
  | .cmpM => .alu .cmp .mem
  | .cmpA => .alu .cmp (.reg .a)
  | .ani v => .aluImm .ana v
  | .xri v => .aluImm .xra v
  | .ori v => .aluImm .ora v
  | .cpi v => .aluImm .cmp v
  | .rnz => .rcc .nz
  | .jnz addr => .jcc .nz addr
  | .jmp addr => .jmp addr
  | .cnz addr => .ccc .nz addr
  | .rst0 => .rst 0
  | .rz => .rcc .z
  | .ret => .ret
  | .jz addr => .jcc .z addr
  | .cz addr => .ccc .z addr
  | .call addr => .call addr
  | .rst1 => .rst 1
  | .rnc => .rcc .nc
  | .jnc addr => .jcc .nc addr
  | .cnc addr => .ccc .nc addr
  | .rst2 => .rst 2
  | .rc => .rcc .c
  | .jc addr => .jcc .c addr
  | .cc addr => .ccc .c addr
  | .rst3 => .rst 3
  | .rpo => .rcc .po
  | .jpo addr => .jcc .po addr
  | .cpo addr => .ccc .po addr
  | .rst4 => .rst 4
  | .rpe => .rcc .pe
  | .pchl => .pchl
  | .jpe addr => .jcc .pe addr
  | .cpe addr => .ccc .pe addr
  | .rst5 => .rst 5
  | .rp => .rcc .p
  | .jp addr => .jcc .p addr
  | .cp addr => .ccc .p addr
  | .rst6 => .rst 6
  | .rm => .rcc .m
  | .jm addr => .jcc .m addr
  | .cm addr => .ccc .m addr
  | .rst7 => .rst 7
  | .nop => .nop
  | .hlt => .hlt
  | .popB => .pop .bc
  | .pushB => .push .bc
  | .popD => .pop .de
  | .out port => .out port
  | .pushD => .push .de
  | .inp port => .inp port
  | .popH => .pop .hl
  | .xthl => .xthl
  | .pushH => .push .hl
  | .popPsw => .pop .psw
  | .di => .di
  | .pushPsw => .push .psw
  | .sphl => .sphl
  | .ei => .ei


/-! ## Fields of the opcode byte (R301) -/

/-- Bits 7:6, the group G. -/
def groupField (op : Byte) : BitVec 2 := op.extractLsb' 6 2

/-- Bits 5:3: DDD, ALU, CCC or NNN. -/
def midField (op : Byte) : BitVec 3 := op.extractLsb' 3 3

/-- Bits 2:0: SSS or the sub-operation. -/
def lowField (op : Byte) : BitVec 3 := op.extractLsb' 0 3

/-- Bits 5:4: the register pair RP. -/
def pairField (op : Byte) : BitVec 2 := op.extractLsb' 4 2

/-- Bit 3: selects between two operations on a register pair. -/
def pairSelect (op : Byte) : Bool := op.getLsbD 3

/-- Register field codes DDD and SSS (R303). -/
def Operand8.ofCode (c : BitVec 3) : Operand8 :=
  match c.toNat with
  | 0 => .reg .b
  | 1 => .reg .c
  | 2 => .reg .d
  | 3 => .reg .e
  | 4 => .reg .h
  | 5 => .reg .l
  | 6 => .mem
  | _ => .reg .a

/-- RP codes for LXI, INX, DCX and DAD (R304). -/
def RegPair.ofCode (c : BitVec 2) : RegPair :=
  match c.toNat with
  | 0 => .bc
  | 1 => .de
  | 2 => .hl
  | _ => .sp

/-- RP codes for PUSH and POP (R304). -/
def StackPair.ofCode (c : BitVec 2) : StackPair :=
  match c.toNat with
  | 0 => .bc
  | 1 => .de
  | 2 => .hl
  | _ => .psw

/-- Condition codes CCC (R305). -/
def Cond.ofCode (c : BitVec 3) : Cond :=
  match c.toNat with
  | 0 => .nz
  | 1 => .z
  | 2 => .nc
  | 3 => .c
  | 4 => .po
  | 5 => .pe
  | 6 => .p
  | _ => .m

/-- ALU operation codes (R306). -/
def AluOp.ofCode (c : BitVec 3) : AluOp :=
  match c.toNat with
  | 0 => .add
  | 1 => .adc
  | 2 => .sub
  | 3 => .sbb
  | 4 => .ana
  | 5 => .xra
  | 6 => .ora
  | _ => .cmp

/-- MOV with its two register fields; the slot of MOV M,M is HLT (R302, R322). -/
def decodeMov (dst src : Operand8) : Form :=
  match dst, src with
  | .reg dst, .reg src => .movRR dst src
  | .reg dst, .mem => .movRM dst
  | .mem, .reg src => .movMR src
  | .mem, .mem => .hlt

/-- MVI with its register field (R403, R404). -/
def decodeMvi (dst : Operand8) (v : Byte) : Form :=
  match dst with
  | .reg dst => .mviR dst v
  | .mem => .mviM v

/-- Group 00, sub-operation 010: the accumulator and HL loads and stores (R302, R406 to R411). -/
def decodeLoadStore (y : BitVec 3) (w : Word) : Form :=
  match y.toNat with
  | 0 => .stax .bc
  | 1 => .ldax .bc
  | 2 => .stax .de
  | 3 => .ldax .de
  | 4 => .shld w
  | 5 => .lhld w
  | 6 => .sta w
  | _ => .lda w

/-- Group 00, sub-operation 111: rotates, DAA, CMA, STC and CMC. -/
def decodeAccumulator (y : BitVec 3) : Form :=
  match y.toNat with
  | 0 => .rlc
  | 1 => .rrc
  | 2 => .ral
  | 3 => .rar
  | 4 => .daa
  | 5 => .cma
  | 6 => .stc
  | _ => .cmc

/-- Group 11, sub-operation 001 with bit 3 set: RET, its alias 0xD9, PCHL and SPHL (R320, R321). -/
def decodeReturn (rp : BitVec 2) : Form :=
  match rp.toNat with
  | 0 => .ret
  | 1 => .ret
  | 2 => .pchl
  | _ => .sphl

/-- Group 11, sub-operation 011: JMP and its alias 0xCB, OUT, IN, XTHL, XCHG, DI and EI (R320, R321). -/
def decodeControl (y : BitVec 3) (b : Byte) (w : Word) : Form :=
  match y.toNat with
  | 0 => .jmp w
  | 1 => .jmp w
  | 2 => .out b
  | 3 => .inp b
  | 4 => .xthl
  | 5 => .xchg
  | 6 => .di
  | _ => .ei

/-- Group 00, by its sub-operation; sub-operation 000 is NOP and its seven aliases (R320, R321). -/
def decodeMisc (op b : Byte) (w : Word) : Form :=
  match (lowField op).toNat with
  | 0 => .nop
  | 1 => if pairSelect op then .dad (.ofCode (pairField op)) else .lxi (.ofCode (pairField op)) w
  | 2 => decodeLoadStore (midField op) w
  | 3 => if pairSelect op then .dcx (.ofCode (pairField op)) else .inx (.ofCode (pairField op))
  | 4 => .inr (.ofCode (midField op))
  | 5 => .dcr (.ofCode (midField op))
  | 6 => decodeMvi (.ofCode (midField op)) b
  | _ => decodeAccumulator (midField op)

/-- Group 11, by its sub-operation; sub-operation 101 with bit 3 set is CALL and its three aliases (R320, R321). -/
def decodeTransfer (op b : Byte) (w : Word) : Form :=
  match (lowField op).toNat with
  | 0 => .rcc (.ofCode (midField op))
  | 1 => if pairSelect op then decodeReturn (pairField op) else .pop (.ofCode (pairField op))
  | 2 => .jcc (.ofCode (midField op)) w
  | 3 => decodeControl (midField op) b w
  | 4 => .ccc (.ofCode (midField op)) w
  | 5 => if pairSelect op then .call w else .push (.ofCode (pairField op))
  | 6 => .aluImm (.ofCode (midField op)) b
  | _ => .rst (midField op).toFin

/-- `decode` of R324: the form of opcode byte `op`, whose immediates are taken from the two bytes after it, `b1` at
`pc0+1` and `b2` at `pc0+2`, as R308 assembles them (a word little-endian). Total: no opcode is rejected (R322).
An opcode of length 1 or 2 ignores the bytes past its length. -/
def decodeForm (op b1 b2 : Byte) : Form :=
  match (groupField op).toNat with
  | 0 => decodeMisc op b1 (ofBytes b2 b1)
  | 1 => decodeMov (.ofCode (midField op)) (.ofCode (lowField op))
  | 2 => .alu (.ofCode (midField op)) (.ofCode (lowField op))
  | _ => decodeTransfer op b1 (ofBytes b2 b1)

/-- The instruction of opcode byte `op` followed by `b1` and `b2`. -/
def decodeOp (op b1 b2 : Byte) : Instr := (decodeForm op b1 b2).instr

/-! ## Length (R310) -/

/-- The 30 opcodes of three bytes, as R310 lists them. -/
def threeByteOpcodes : List Byte :=
  [0x01, 0x11, 0x21, 0x22, 0x2A, 0x31, 0x32, 0x3A] ++
  [0xC2, 0xC3, 0xC4, 0xCA, 0xCB, 0xCC, 0xCD, 0xD2, 0xD4, 0xDA, 0xDC, 0xDD] ++
  [0xE2, 0xE4, 0xEA, 0xEC, 0xED, 0xF2, 0xF4, 0xFA, 0xFC, 0xFD]

/-- The 18 opcodes of two bytes, as R310 lists them. -/
def twoByteOpcodes : List Byte :=
  [0x06, 0x0E, 0x16, 0x1E, 0x26, 0x2E, 0x36, 0x3E] ++
  [0xC6, 0xCE, 0xD3, 0xD6, 0xDB, 0xDE, 0xE6, 0xEE, 0xF6, 0xFE]

/-- The length of an instruction in bytes: the opcode byte alone fixes it (R310, R311). -/
def opcodeLength (op : Byte) : Nat :=
  if threeByteOpcodes.contains op then 3 else if twoByteOpcodes.contains op then 2 else 1

/-! ## Decoding a byte stream (R300, R324) -/

/-- Why a byte stream does not begin with an instruction. No opcode byte is a reason (R322). -/
inductive DecodeError where
  /-- The stream is empty: there is no opcode byte. -/
  | noOpcode
  /-- The stream ends before the last of the immediate bytes that the opcode asks for. -/
  | missingOperand
deriving DecidableEq, Repr

/-- The instruction at the head of a byte stream, and the rest of the stream (R300). -/
def decode (code : List Byte) : Except DecodeError (Instr × List Byte) :=
  match code with
  | [] => .error .noOpcode
  | op :: rest =>
    match opcodeLength op, rest with
    | 3, b1 :: b2 :: rest => .ok (decodeOp op b1 b2, rest)
    | 2, b1 :: rest => .ok (decodeOp op b1 0, rest)
    | 1, rest => .ok (decodeOp op 0 0, rest)
    | _, _ => .error .missingOperand

/-! ## Encoding (R302 to R308) -/

/-- The code of a register or of M (R303). -/
def Operand8.code (x : Operand8) : BitVec 3 :=
  match x with
  | .reg .b => 0b000
  | .reg .c => 0b001
  | .reg .d => 0b010
  | .reg .e => 0b011
  | .reg .h => 0b100
  | .reg .l => 0b101
  | .mem => 0b110
  | .reg .a => 0b111

/-- The code of a pair of LXI, INX, DCX and DAD (R304). -/
def RegPair.code (rp : RegPair) : BitVec 2 :=
  match rp with
  | .bc => 0b00
  | .de => 0b01
  | .hl => 0b10
  | .sp => 0b11

/-- The code of a pair of PUSH and POP (R304). -/
def StackPair.code (rp : StackPair) : BitVec 2 :=
  match rp with
  | .bc => 0b00
  | .de => 0b01
  | .hl => 0b10
  | .psw => 0b11

/-- The code of a pair of LDAX and STAX, the bit R of `000 R q 010` (R302, R304). -/
def IndirectPair.code (rp : IndirectPair) : BitVec 1 :=
  match rp with
  | .bc => 0b0
  | .de => 0b1

/-- The code of a condition (R305). -/
def Cond.code (cc : Cond) : BitVec 3 :=
  match cc with
  | .nz => 0b000
  | .z => 0b001
  | .nc => 0b010
  | .c => 0b011
  | .po => 0b100
  | .pe => 0b101
  | .p => 0b110
  | .m => 0b111

/-- The code of an ALU operation (R306). -/
def AluOp.code (op : AluOp) : BitVec 3 :=
  match op with
  | .add => 0b000
  | .adc => 0b001
  | .sub => 0b010
  | .sbb => 0b011
  | .ana => 0b100
  | .xra => 0b101
  | .ora => 0b110
  | .cmp => 0b111

/-- An opcode byte from its group, its middle field and its low field (R301). -/
def opcodeOf (g : BitVec 2) (y z : BitVec 3) : Byte := (g ++ y ++ z : BitVec (2 + 3 + 3))

/-- An opcode byte whose middle field is a register pair and the bit that selects the operation (R301). -/
def opcodeOfPair (g rp : BitVec 2) (q : BitVec 1) (z : BitVec 3) : Byte := opcodeOf g (rp ++ q : BitVec (2 + 1)) z

/-- An opcode byte followed by an immediate word, low byte first (R308). -/
def withWord (op : Byte) (w : Word) : List Byte := [op, loByte w, hiByte w]

/-- The bytes of an operand form: the formats of R302, and of an instruction with aliases the documented one (R321). -/
def Form.encode (f : Form) : List Byte :=
  match f with
  | .movRR dst src => [opcodeOf 0b01 (Operand8.reg dst).code (Operand8.reg src).code]
  | .movRM dst => [opcodeOf 0b01 (Operand8.reg dst).code 0b110]
  | .movMR src => [opcodeOf 0b01 0b110 (Operand8.reg src).code]
  | .mviR dst v => [opcodeOf 0b00 (Operand8.reg dst).code 0b110, v]
  | .mviM v => [0b00110110, v]
  | .lxi rp v => withWord (opcodeOfPair 0b00 rp.code 0 0b001) v
  | .lda addr => withWord 0x3A addr
  | .sta addr => withWord 0x32 addr
  | .lhld addr => withWord 0x2A addr
  | .shld addr => withWord 0x22 addr
  | .ldax rp => [opcodeOf 0b00 (0#1 ++ rp.code ++ 1#1) 0b010]
  | .stax rp => [opcodeOf 0b00 (0#1 ++ rp.code ++ 0#1) 0b010]
  | .xchg => [0xEB]
  | .alu op x => [opcodeOf 0b10 op.code x.code]
  | .aluImm op v => [opcodeOf 0b11 op.code 0b110, v]
  | .inr x => [opcodeOf 0b00 x.code 0b100]
  | .dcr x => [opcodeOf 0b00 x.code 0b101]
  | .inx rp => [opcodeOfPair 0b00 rp.code 0 0b011]
  | .dcx rp => [opcodeOfPair 0b00 rp.code 1 0b011]
  | .dad rp => [opcodeOfPair 0b00 rp.code 1 0b001]
  | .daa => [0x27]
  | .rlc => [0x07]
  | .rrc => [0x0F]
  | .ral => [0x17]
  | .rar => [0x1F]
  | .cma => [0x2F]
  | .cmc => [0x3F]
  | .stc => [0x37]
  | .jmp addr => withWord 0xC3 addr
  | .jcc cc addr => withWord (opcodeOf 0b11 cc.code 0b010) addr
  | .call addr => withWord 0xCD addr
  | .ccc cc addr => withWord (opcodeOf 0b11 cc.code 0b100) addr
  | .ret => [0xC9]
  | .rcc cc => [opcodeOf 0b11 cc.code 0b000]
  | .rst n => [opcodeOf 0b11 (BitVec.ofFin n) 0b111]
  | .pchl => [0xE9]
  | .push rp => [opcodeOfPair 0b11 rp.code 0 0b101]
  | .pop rp => [opcodeOfPair 0b11 rp.code 0 0b001]
  | .xthl => [0xE3]
  | .sphl => [0xF9]
  | .inp port => [0xDB, port]
  | .out port => [0xD3, port]
  | .ei => [0xFB]
  | .di => [0xF3]
  | .hlt => [0x76]
  | .nop => [0x00]

/-- The bytes of an instruction. -/
def encode (i : Instr) : List Byte := i.form.encode

/-- The length of an instruction in bytes, the number of bytes a step consumes (R310). -/
def Form.length (f : Form) : Nat :=
  match f with
  | .mviR _ _ | .mviM _ | .aluImm _ _ | .inp _ | .out _ => 2
  | .lxi _ _ | .lda _ | .sta _ | .lhld _ | .shld _ | .jmp _ | .jcc _ _ | .call _ | .ccc _ _ => 3
  | _ => 1

/-- The length of an instruction in bytes (R310). -/
def Instr.length (i : Instr) : Nat := i.form.length

/-! ## The opcode table's words -/

/-- Byte number `k` of an instruction whose bits are `w`, numbered as spec/opcode_table.json numbers them (bit 0 of the
first byte is bit 0), with every bit from `nbits` up being 0. -/
def tableByte (nbits w k : Nat) : Byte := BitVec.ofNat 8 (w % 2 ^ nbits / 2 ^ (8 * k))

/-- The bytes of such an instruction, as many as the longest instruction has, in the order memory holds them. -/
def tableBytes (nbits w : Nat) : List Byte := [tableByte nbits w 0, tableByte nbits w 1, tableByte nbits w 2]

/-- The instruction that the decoder reads from such an instruction's bytes. -/
def decodeTableWord (nbits w : Nat) : Option Instr :=
  match decode (tableBytes nbits w) with
  | .ok (i, _) => some i
  | .error _ => none

end Sys2Proof
end

