-- ==== Sys2Proof/Config.lean ====
section
/-! DEFINITION. What an implementation of the core fixes: the types of the parameters of 00_scope.md R9,
the record that holds their values, and the one free value of the model, the byte that the host's input
hook answers (20_memory.md R230). The DEFAULT values of the parameters stand in
Sys2Proof/Machine/Parameters.lean; the record itself is a field of State, so that a statement about every
state is a statement about every choice of the parameters. -/

namespace Sys2Proof

/-- `AC_SUB_MODE` (R9, R502): how a subtraction sets the auxiliary carry. -/
inductive AcSubMode where
  /-- The carry out of bit 3 of `a + ~b + (1 - w)`: the decided default (92_eei_decisions.md D9). -/
  | intel
  /-- The borrow out of the low nibble: the source's literal text, kept as the alternative. -/
  | borrow
deriving DecidableEq, Repr

/-- `AC_AND_MODE` (R9, R600): how an AND sets the auxiliary carry. -/
inductive AcAndMode where
  /-- Bit 3 of `a | b`: the decided default (92_eei_decisions.md D10). -/
  | intel
  /-- Always 0: the source's literal text, kept as the alternative. -/
  | clear
deriving DecidableEq, Repr

/-- One event of the I/O history (R230, R231, R232). -/
inductive IoEvent where
  /-- `In(p, v)`: an IN read byte `value` from input port `port`. -/
  | portIn (port value : Byte)
  /-- `Out(p, v)`: an OUT handed byte `value` to output port `port`. -/
  | portOut (port value : Byte)
deriving DecidableEq, Repr

/-- The parameters a model of the core takes (R9), fixed at construction (R1000): no step and no host
operation changes them (the last field says which input ports have a host hook, R230). -/
structure Params where
  /-- `SP_RESET`: the value of SP after construction and reset (R140, D3). -/
  spReset : Word
  /-- `EI_DELAY`: whether EI takes effect only after the next instruction (R811, D5). -/
  eiDelay : Bool
  /-- `AC_SUB_MODE` (R502, R503). -/
  acSub : AcSubMode
  /-- `AC_AND_MODE` (R600). -/
  acAnd : AcAndMode
  /-- The input ports for which the host installed a hook; a port not listed has the default
  implementation, which returns 0 for reads (R230). -/
  inHooks : List Byte
deriving DecidableEq, Repr

/-- FREE VALUE. `PortIn` of R9 and R230: the byte that an installed input hook answers, from the port number
and the I/O history so far. It has no law (U2), so it has no body: a proof about it holds for every hook.
A port without a hook does not ask it (Sys2Proof/Machine/Ops.lean, `inputByte`). Log entry 3. -/
opaque Config.portIn : Byte → List IoEvent → Byte

end Sys2Proof
end

