-- ==== Sys2Proof/Machine/Parameters.lean ====
section
/-! DEFINITION. The default values of the parameters of 00_scope.md R9: those a core has whose host chooses nothing. -/

namespace Sys2Proof.Machine

/-- `SP_RESET` is OPEN in the spec ("SP undefined/0", 10_state.md R140, 90_conflicts.md C7). DESIGN CHOICE: the default is
the source's concrete reading 0; unsafe where a proof leans on it, so a statement about construction quantifies over
the parameter. Log entry 1. -/
def defaultSpReset : Word := 0

/-- The parameters' defaults (R9): EI delayed (D5), both auxiliary-carry rules as the Intel 8080 has them (D9, D10), and
no input hook, so that every IN reads 0 (R230). -/
def defaultParams : Params :=
  { spReset := defaultSpReset, eiDelay := true, acSub := .intel, acAnd := .intel, inHooks := [] }

end Sys2Proof.Machine
end

