-- ==== Sys2Proof/Machine/State.lean ====
section
/-! DEFINITION. The state of the core (10_state.md): its registers, flags, control bits and memory, the I/O history
(20_memory.md R232) and the parameters it was constructed with (00_scope.md R9); and the state after reset (R140). -/

namespace Sys2Proof.Machine

/-- Memory: the bytes that do not read as `Memory.unlisted` (Sys2Proof/Machine/Ops.lean), by strictly rising address. -/
abbrev Memory := List Host.Cell

/-- The seven 8-bit general registers (R100). A register pair is a view of two of them (R110). -/
structure Regs where
  a : Byte
  b : Byte
  c : Byte
  d : Byte
  e : Byte
  h : Byte
  l : Byte
deriving DecidableEq, Repr

/-- The five condition flags, as separate bits (R120). Bits 5, 3 and 1 of the packed byte are no state. -/
structure Flags where
  /-- Sign (R121). -/
  s : Bool
  /-- Zero (R122). -/
  z : Bool
  /-- Auxiliary carry (R123). -/
  ac : Bool
  /-- Parity (R124). -/
  p : Bool
  /-- Carry (R125). -/
  cy : Bool
deriving DecidableEq, Repr

/-- The whole state of the core. -/
structure State where
  /-- A, B, C, D, E, H and L (R100). -/
  regs : Regs
  /-- The stack pointer (R112). -/
  sp : Word
  /-- The program counter: at the start of a step, the address of the opcode byte (R113). -/
  pc : Word
  /-- S, Z, AC, P and CY (R120). -/
  flags : Flags
  /-- The run state: Running is false, Halted is true (R130). -/
  halted : Bool
  /-- `interrupts_enabled` (R131). -/
  inte : Bool
  /-- An EI has been executed that is not yet in effect (R132). -/
  eiDelay : Bool
  /-- The 65536-byte memory (R200). -/
  mem : Memory
  /-- The I/O history: every event of the steps so far, oldest first (R232). -/
  io : List IoEvent
  /-- The parameters the core was constructed with (R9, R1000). -/
  params : Params
deriving DecidableEq, Repr

/-- Why the machine stops with a fault. EMPTY: no instruction raises an exception, no address is invalid and no opcode is
illegal, so "the model's fault type for this core is empty" (60_exceptions.md R900); a halted step is no fault (R901). -/
inductive Fault
deriving DecidableEq, Repr

/-- Why an instruction has no next state. -/
inductive Refusal where
  /-- Raised by an arm of `exec` for an instruction that has no meaning yet; safe. No arm raises it: every instruction of
  the opcode table has its meaning. -/
  | notModelled (mnemonic : String)
deriving DecidableEq, Repr

/-- What executing an instruction, or one step, answers. -/
abbrev Outcome := Host.Outcome State Fault Refusal

/-- A to L after construction and reset: 0x00 each (R140). -/
def Regs.reset : Regs := { a := 0, b := 0, c := 0, d := 0, e := 0, h := 0, l := 0 }

/-- The flags after construction and reset: 0 each (R140). -/
def Flags.reset : Flags := { s := false, z := false, ac := false, p := false, cy := false }

/-- The state that construction with parameters `p` makes around memory `mem`: every register, flag and control bit at
its value of R140, and an empty I/O history (R1000). -/
def State.initial (p : Params) (mem : Memory) : State :=
  { regs := .reset, sp := p.spReset, pc := 0, flags := .reset, halted := false, inte := false, eiDelay := false,
    mem := mem, io := [], params := p }

/-- The machine right after construction with the default parameters and no image (R140, R240). -/
def State.reset : State := .initial defaultParams []

end Sys2Proof.Machine
end

