-- ==== Sys2Proof/Machine/Flags.lean ====
section
/-! DEFINITION. The flag logic: every flag computation of the spec (00_scope.md R14, R15; 41_arithmetic.md R500 to R504,
R540; 42_logical.md R600 to R602) and the conditions (43_branch.md R700). Operands become integers, the result is
computed exactly and narrowed at the end, so that carries are comparisons. -/

namespace Sys2Proof.Machine

/-- The number of 1 bits of a byte. -/
def ones (r : Byte) : Nat :=
  (r.getLsbD 0).toNat + (r.getLsbD 1).toNat + (r.getLsbD 2).toNat + (r.getLsbD 3).toNat +
  (r.getLsbD 4).toNat + (r.getLsbD 5).toNat + (r.getLsbD 6).toNat + (r.getLsbD 7).toNat

/-- `par(r)`: true when the number of 1 bits is even (R14, R124). -/
def parity (r : Byte) : Bool := ones r % 2 == 0

/-- `szp(r)` with the given AC and CY (R14). -/
def szp (r : Byte) (ac cy : Bool) : Flags :=
  { s := r.getLsbD 7, z := r == 0, ac := ac, p := parity r, cy := cy }

/-- `v & 0x0F` as a number. -/
def lowNibble (v : Byte) : Nat := v.toNat % 16

/-- A bit of the packed flags byte. -/
def flagBit (b : Bool) (i : Nat) : Byte := if b then (1 : Byte) <<< i else 0

/-- `pack(F)`: bits 5, 3 and 1 are always 0, 0 and 1 (R15, R120). -/
def Flags.pack (f : Flags) : Byte :=
  flagBit f.s 7 ||| flagBit f.z 6 ||| flagBit f.ac 4 ||| flagBit f.p 2 ||| flagBit true 1 ||| flagBit f.cy 0

/-- `unpack(b)`: bits 5, 3 and 1 are ignored (R15). -/
def Flags.unpack (b : Byte) : Flags :=
  { s := b.getLsbD 7, z := b.getLsbD 6, ac := b.getLsbD 4, p := b.getLsbD 2, cy := b.getLsbD 0 }

/-- A result byte with the flags it leaves. -/
structure AluResult where
  value : Byte
  flags : Flags
deriving DecidableEq, Repr

/-- `add8(a, b, c)` (R501). -/
def add8 (a b : Byte) (c : Bool) : AluResult :=
  let t := a.toNat + b.toNat + c.toNat
  let r := BitVec.ofNat 8 t
  { value := r, flags := szp r (decide (lowNibble a + lowNibble b + c.toNat > 0x0F)) (decide (t > 0xFF)) }

/-- The auxiliary carry of a subtraction, under each `AC_SUB_MODE` (R502). -/
def subAc (mode : AcSubMode) (a b : Byte) (w : Bool) : Bool :=
  match mode with
  | .intel => decide (lowNibble a + lowNibble (~~~b) + (1 - w.toNat) > 0x0F)
  | .borrow => decide (lowNibble a < lowNibble b + w.toNat)

/-- `sub8(a, b, w)` (R502). -/
def sub8 (mode : AcSubMode) (a b : Byte) (w : Bool) : AluResult :=
  let t : Int := (a.toNat : Int) - b.toNat - w.toNat
  let r := BitVec.ofInt 8 t
  { value := r, flags := szp r (subAc mode a b w) (decide (t < 0)) }

/-- The auxiliary carry of an AND, under each `AC_AND_MODE` (R600). -/
def andAc (mode : AcAndMode) (a b : Byte) : Bool :=
  match mode with
  | .intel => (a ||| b).getLsbD 3
  | .clear => false

/-- `and8(a, b)` (R600). -/
def and8 (mode : AcAndMode) (a b : Byte) : AluResult :=
  { value := a &&& b, flags := szp (a &&& b) (andAc mode a b) false }

/-- `xor8(a, b)` (R600). -/
def xor8 (a b : Byte) : AluResult := { value := a ^^^ b, flags := szp (a ^^^ b) false false }

/-- `or8(a, b)` (R600). -/
def or8 (a b : Byte) : AluResult := { value := a ||| b, flags := szp (a ||| b) false false }

/-- `cmp8(a, b)`: the flags of `sub8(a, b, 0)`; the result is discarded, so A keeps its value (R601). -/
def cmp8 (mode : AcSubMode) (a b : Byte) : AluResult := { value := a, flags := (sub8 mode a b false).flags }

/-- What the ALU operation `op` makes of A, its second operand and CY (R306, R500). -/
def aluResult (p : Params) (op : AluOp) (a b : Byte) (cy : Bool) : AluResult :=
  match op with
  | .add => add8 a b false
  | .adc => add8 a b cy
  | .sub => sub8 p.acSub a b false
  | .sbb => sub8 p.acSub a b cy
  | .ana => and8 p.acAnd a b
  | .xra => xor8 a b
  | .ora => or8 a b
  | .cmp => cmp8 p.acSub a b

/-- INR: the result and its flags; CY is kept (R503, R522). -/
def inr8 (x : Byte) (f : Flags) : AluResult :=
  { value := x + 1, flags := szp (x + 1) (decide (lowNibble x = 0x0F)) f.cy }

/-- The auxiliary carry of DCR, under each `AC_SUB_MODE` (R503). -/
def dcrAc (mode : AcSubMode) (x : Byte) : Bool :=
  match mode with
  | .intel => decide (lowNibble x ≠ 0)
  | .borrow => decide (lowNibble x = 0)

/-- DCR: the result and its flags; CY is kept (R503, R524). -/
def dcr8 (mode : AcSubMode) (x : Byte) (f : Flags) : AluResult :=
  { value := x - 1, flags := szp (x - 1) (dcrAc mode x) f.cy }

/-- DAA, its two steps over an unbounded intermediate (R540). -/
def daa8 (a : Byte) (f : Flags) : AluResult :=
  let lo := lowNibble a
  let t1 := if lo > 9 ∨ f.ac = true then a.toNat + 0x06 else a.toNat
  let high := t1 / 16 > 9 ∨ f.cy = true
  let t2 := if high then t1 + 0x60 else t1
  let r := BitVec.ofNat 8 t2
  { value := r, flags := szp r (decide (lo > 9)) (decide high) }

/-- DAD: the sum and CY, the carry out of bit 15 (R532). -/
def dad16 (x y : Word) : Word × Bool :=
  let t := x.toNat + y.toNat
  (BitVec.ofNat 16 t, decide (t > 0xFFFF))

/-- RLC: the rotated byte and CY (R630). -/
def rlc8 (a : Byte) : Byte × Bool := (a <<< 1 ||| flagBit (a.getLsbD 7) 0, a.getLsbD 7)

/-- RRC (R631). -/
def rrc8 (a : Byte) : Byte × Bool := (a >>> 1 ||| flagBit (a.getLsbD 0) 7, a.getLsbD 0)

/-- RAL: the old CY enters at bit 0 (R632). -/
def ral8 (a : Byte) (cy : Bool) : Byte × Bool := (a <<< 1 ||| flagBit cy 0, a.getLsbD 7)

/-- RAR: the old CY enters at bit 7 (R633). -/
def rar8 (a : Byte) (cy : Bool) : Byte × Bool := (a >>> 1 ||| flagBit cy 7, a.getLsbD 0)

/-- `cond(CCC)`, read from the flags (R305, R700). -/
def condHolds (cc : Cond) (f : Flags) : Bool :=
  match cc with
  | .nz => !f.z
  | .z => f.z
  | .nc => !f.cy
  | .c => f.cy
  | .po => !f.p
  | .pe => f.p
  | .p => !f.s
  | .m => f.s

end Sys2Proof.Machine
end

