-- ==== Sys2Proof/Machine/Ops.lean ====
section
/-! DEFINITION. The named operations over memory, registers, the stack, the ports and the program counter, which every
instruction is built from; and the acceptance of an interrupt, the one event that enters a handler
(60_exceptions.md R912), with the return from one. -/

namespace Sys2Proof.Machine

/-! ## Memory (20_memory.md R200 to R209) -/

/-- What an unlisted address reads as: 0, since construction fills every byte that no image covers with 0 (R240). -/
def Memory.unlisted : Byte := 0

/-- The byte at address `a` of a list of cells. -/
def Memory.readCell (m : Memory) (a : Nat) : Byte :=
  match m with
  | [] => Memory.unlisted
  | (b, w) :: rest => if b = a then w else Memory.readCell rest a

/-- A list of cells without those at address `a`. -/
def Memory.eraseCell (m : Memory) (a : Nat) : Memory :=
  match m with
  | [] => []
  | (b, w) :: rest => if b = a then Memory.eraseCell rest a else (b, w) :: Memory.eraseCell rest a

/-- A list of cells with a cell put before the first of a higher address. -/
def Memory.insertCell (m : Memory) (a : Nat) (v : Byte) : Memory :=
  match m with
  | [] => [(a, v)]
  | (b, w) :: rest => if a < b then (a, v) :: (b, w) :: rest else (b, w) :: Memory.insertCell rest a v

/-- `MemRead(a, 1)` (R204). -/
def Memory.read (m : Memory) (a : Word) : Byte := m.readCell a.toNat

/-- `MemWrite(a, 1, v)` (R206). Writing what an unlisted address reads as only removes the cell. -/
def Memory.write (m : Memory) (a : Word) (v : Byte) : Memory :=
  if v = Memory.unlisted then m.eraseCell a.toNat else (m.eraseCell a.toNat).insertCell a.toNat v

/-- The cells lie at strictly rising addresses, from `lo` up and below 65536, and none holds the unlisted byte. -/
def Memory.wfFrom (m : Memory) (lo : Nat) : Bool :=
  match m with
  | [] => true
  | (a, v) :: rest => decide (lo ≤ a) && decide (a < 65536) && decide (v ≠ Memory.unlisted) && Memory.wfFrom rest (a + 1)

/-- The canonical form of memory: equal memories are equal lists. -/
def Memory.wf (m : Memory) : Bool := m.wfFrom 0

/-- `MemRead(a, 1)` of the machine (R204). -/
def State.readByte (s : State) (a : Word) : Byte := s.mem.read a

/-- `MemWrite(a, 1, v)` of the machine (R206). -/
def State.writeByte (s : State) (a : Word) (v : Byte) : State := { s with mem := s.mem.write a v }

/-- `MemRead(a, 2)`: low byte at `a`, high byte at `a+1`, which wraps (R202, R205). -/
def State.readWord (s : State) (a : Word) : Word := ofBytes (s.readByte (a + 1)) (s.readByte a)

/-- `MemWrite(a, 2, v)`: low byte at `a`, high byte at `a+1`, which wraps (R202, R207). -/
def State.writeWord (s : State) (a v : Word) : State := (s.writeByte a (loByte v)).writeByte (a + 1) (hiByte v)

/-! ## Registers (10_state.md R100 to R112) -/

/-- `x[r]`. -/
def State.getReg (s : State) (r : Reg8) : Byte :=
  match r with
  | .b => s.regs.b
  | .c => s.regs.c
  | .d => s.regs.d
  | .e => s.regs.e
  | .h => s.regs.h
  | .l => s.regs.l
  | .a => s.regs.a

/-- `x[r] <- v`. -/
def State.setReg (s : State) (r : Reg8) (v : Byte) : State :=
  match r with
  | .b => { s with regs := { s.regs with b := v } }
  | .c => { s with regs := { s.regs with c := v } }
  | .d => { s with regs := { s.regs with d := v } }
  | .e => { s with regs := { s.regs with e := v } }
  | .h => { s with regs := { s.regs with h := v } }
  | .l => { s with regs := { s.regs with l := v } }
  | .a => { s with regs := { s.regs with a := v } }

/-- `SP <- v`. -/
def State.setSp (s : State) (v : Word) : State := { s with sp := v }

/-- `pc <- target`. -/
def State.setPc (s : State) (v : Word) : State := { s with pc := v }

/-- Sets the five flags. -/
def State.setFlags (s : State) (f : Flags) : State := { s with flags := f }

/-- Sets CY alone. -/
def State.setCarry (s : State) (cy : Bool) : State := { s with flags := { s.flags with cy := cy } }

/-- `x[BC]`: the first-named register is the high byte (R110). -/
def State.bc (s : State) : Word := ofBytes (s.getReg .b) (s.getReg .c)

/-- `x[DE]` (R110). -/
def State.de (s : State) : Word := ofBytes (s.getReg .d) (s.getReg .e)

/-- `x[HL]`, the memory pointer M (R102, R110). -/
def State.hl (s : State) : Word := ofBytes (s.getReg .h) (s.getReg .l)

/-- `x[BC] <- v` (R110). -/
def State.setBc (s : State) (v : Word) : State := (s.setReg .b (hiByte v)).setReg .c (loByte v)

/-- `x[DE] <- v` (R110). -/
def State.setDe (s : State) (v : Word) : State := (s.setReg .d (hiByte v)).setReg .e (loByte v)

/-- `x[HL] <- v` (R110). -/
def State.setHl (s : State) (v : Word) : State := (s.setReg .h (hiByte v)).setReg .l (loByte v)

/-- The default end of an instruction, `PC <- next`: PC moves past its `len` bytes, modulo 65536 (R13, R113). -/
def State.advance (s : State) (len : Nat) : State := { s with pc := s.pc + BitVec.ofNat 16 len }

/-! ## The stack (44_stack_io_machine.md R800 to R802) -/

/-- `push16(v)`: the high byte at SP-1, then the low byte at SP-2 (R801). -/
def State.push16 (s : State) (v : Word) : State :=
  let s1 := (s.setSp (s.sp - 1)).writeByte (s.sp - 1) (hiByte v)
  (s1.setSp (s1.sp - 1)).writeByte (s1.sp - 1) (loByte v)

/-- The word that `pop16()` returns: low byte at SP, high byte at SP+1 (R802). -/
def State.top16 (s : State) : Word := ofBytes (s.readByte (s.sp + 1)) (s.readByte s.sp)

/-- What `pop16()` does to SP (R802). -/
def State.dropTop (s : State) : State := s.setSp (s.sp + 1 + 1)

/-! ## The ports (20_memory.md R230 to R233) -/

/-- The byte that input port `p` gives: 0 by default, the host's answer where it installed a hook (R230). -/
def State.inputByte (s : State) (p : Byte) : Byte :=
  if s.params.inHooks.contains p then Config.portIn p s.io else 0

/-- Appends an event to the I/O history (R232). -/
def State.record (s : State) (ev : IoEvent) : State := { s with io := s.io ++ [ev] }

/-- `PortWrite(p, v)`: the core only records the event; it keeps no copy of the byte (R231). -/
def State.portWrite (s : State) (p v : Byte) : State := s.record (.portOut p v)

/-- What `PortRead(p)` does to the state: it records the event (R230). -/
def State.portRead (s : State) (p : Byte) : State := s.record (.portIn p (s.inputByte p))

/-! ## Restart, interrupt acceptance and return (R707, R912, R920) -/

/-- The RST and interrupt vector: `8*n = zext_16(n << 3)` (R307). -/
def vector (n : Fin 8) : Word := BitVec.ofNat 16 n.val <<< 3

/-- Pushes the program counter and goes to vector `n`: what RST n does once PC is past it, and what acceptance does. -/
def State.restart (s : State) (n : Fin 8) : State := (s.push16 s.pc).setPc (vector n)

/-- `accept(n)`: interrupts off, running again, the address of the next instruction pushed, and PC at the vector
(R912). The saved state is the return address alone. -/
def State.acceptInterrupt (s : State) (n : Fin 8) : State :=
  State.restart { s with inte := false, halted := false } n

/-- The acceptance condition (R911). -/
def State.canAccept (s : State) : Bool := s.inte && !s.eiDelay

/-- `pc <- pop16()`: how a handler returns (R920), and RET (R705). It restores the return address alone. -/
def State.returnToTop (s : State) : State := s.dropTop.setPc s.top16

/-! ## The step's own parts (R820, R822) -/

/-- The instruction at PC: the opcode byte and the bytes after it, addresses modulo 65536 (R308, R820). Reading a byte past
the instruction's length has no effect (R213). -/
def State.fetch (s : State) : Instr :=
  decodeOp (s.readByte s.pc) (s.readByte (s.pc + 1)) (s.readByte (s.pc + 2))

/-- The end of a step that executed `i`: `ei_delay <- (ins is EI) ? EI_DELAY : 0` (R132, R820). -/
def State.retire (s : State) (i : Instr) : State :=
  { s with eiDelay := if i = .ei then s.params.eiDelay else false }

/-- A step of a halted core changes no state (R822). -/
def State.haltedStep (s : State) : State := s

/-- Stores bytes from address `a` on, addresses modulo 65536. -/
def Memory.writeBytes (m : Memory) (a : Word) (bytes : List Byte) : Memory :=
  match bytes with
  | [] => m
  | v :: rest => Memory.writeBytes (m.write a v) (a + 1) rest

/-- The machine's memory with bytes stored from address `a` on. -/
def State.writeBytes (s : State) (a : Word) (bytes : List Byte) : State :=
  { s with mem := s.mem.writeBytes a bytes }

end Sys2Proof.Machine
end

