-- ==== Sys2Proof/Machine/Operands.lean ====
section
/-! DEFINITION. Every operand form (30_encoding.md R303, R304, R309; 41_arithmetic.md R500): reading and writing a register
or M, and the pairs of each group of instructions. -/

namespace Sys2Proof.Machine

/-- `src8(c)`: a register, or the byte at HL (R500). -/
def State.src8 (s : State) (x : Operand8) : Byte :=
  match x with
  | .reg r => s.getReg r
  | .mem => s.readByte s.hl

/-- `dst8(c, v)`: a register, or the byte at HL (R500). -/
def State.dst8 (s : State) (x : Operand8) (v : Byte) : State :=
  match x with
  | .reg r => s.setReg r v
  | .mem => s.writeByte s.hl v

/-- The pair of LXI, INX, DCX and DAD (R304). -/
def State.getPair (s : State) (rp : RegPair) : Word :=
  match rp with
  | .bc => s.bc
  | .de => s.de
  | .hl => s.hl
  | .sp => s.sp

/-- Writes the pair of LXI, INX and DCX (R304). -/
def State.setPair (s : State) (rp : RegPair) (v : Word) : State :=
  match rp with
  | .bc => s.setBc v
  | .de => s.setDe v
  | .hl => s.setHl v
  | .sp => s.setSp v

/-- The pointer of LDAX and STAX (R304). -/
def State.pointer (s : State) (rp : IndirectPair) : Word :=
  match rp with
  | .bc => s.bc
  | .de => s.de

/-- PSW: A is the high byte, the packed flags the low one (R804). -/
def State.psw (s : State) : Word := ofBytes (s.getReg .a) s.flags.pack

/-- `unpack(w[7:0]); x[A] <- w[15:8]` (R806). -/
def State.setPsw (s : State) (w : Word) : State := (s.setFlags (.unpack (loByte w))).setReg .a (hiByte w)

/-- The pair that PUSH reads (R304, R803, R804). -/
def State.getStackPair (s : State) (rp : StackPair) : Word :=
  match rp with
  | .bc => s.bc
  | .de => s.de
  | .hl => s.hl
  | .psw => s.psw

/-- Writes the pair of POP (R304, R805, R806). -/
def State.setStackPair (s : State) (rp : StackPair) (w : Word) : State :=
  match rp with
  | .bc => s.setBc w
  | .de => s.setDe w
  | .hl => s.setHl w
  | .psw => s.setPsw w

/-- Writes an ALU result into A and the flags (R500). -/
def State.setAlu (s : State) (r : AluResult) : State := (s.setFlags r.flags).setReg .a r.value

end Sys2Proof.Machine
end

