-- ==== Sys2Proof/Machine/Arithmetic.lean ====
section
/-! DEFINITION. Arithmetic instructions (41_arithmetic.md R510 to R540): the operations that the rules share (the ALU
operations of register, memory and immediate form serve 42_logical.md too), then one meaning per instruction. -/

namespace Sys2Proof.Machine

/-! ## The rules -/

/-- What the ALU operation `op` leaves of A and `b` in this state (R500, R306). -/
def State.aluOf (s : State) (op : AluOp) (b : Byte) : AluResult := aluResult s.params op (s.getReg .a) b s.flags.cy

/-- An ALU instruction on a register or M (R510, R511, R513, R514, R516, R517, R519, R520, R610, R611, R613, R614, R616,
R617, R619, R620). -/
def opAlu (op : AluOp) (x : Operand8) (s : State) : State := (s.advance 1).setAlu (s.aluOf op (s.src8 x))

/-- An ALU instruction on an immediate byte (R512, R515, R518, R521, R612, R615, R618, R621). -/
def opAluImm (op : AluOp) (v : Byte) (s : State) : State := (s.advance 2).setAlu (s.aluOf op v)

/-- INR r and INR M (R522, R523). -/
def opInr (x : Operand8) (s : State) : State :=
  let r := inr8 (s.src8 x) s.flags
  ((s.advance 1).setFlags r.flags).dst8 x r.value

/-- DCR r and DCR M (R524, R525). -/
def opDcr (x : Operand8) (s : State) : State :=
  let r := dcr8 s.params.acSub (s.src8 x) s.flags
  ((s.advance 1).setFlags r.flags).dst8 x r.value

/-- INX rp (R530). -/
def opInx (rp : RegPair) (s : State) : State := (s.advance 1).setPair rp (s.getPair rp + 1)

/-- DCX rp (R531). -/
def opDcx (rp : RegPair) (s : State) : State := (s.advance 1).setPair rp (s.getPair rp - 1)

/-- DAD rp: CY is the only flag written (R532). -/
def opDad (rp : RegPair) (s : State) : State :=
  let r := dad16 s.hl (s.getPair rp)
  ((s.advance 1).setHl r.1).setCarry r.2

/-- DAA (R540). -/
def opDaa (s : State) : State := (s.advance 1).setAlu (daa8 (s.getReg .a) s.flags)

/-! ## The instructions -/

/-- INX B (R530). -/
def execInxB (s : State) : Outcome := .next (opInx .bc s)

/-- INR B (R522). -/
def execInrB (s : State) : Outcome := .next (opInr (.reg .b) s)

/-- DCR B (R524). -/
def execDcrB (s : State) : Outcome := .next (opDcr (.reg .b) s)

/-- DAD B (R532). -/
def execDadB (s : State) : Outcome := .next (opDad .bc s)

/-- DCX B (R531). -/
def execDcxB (s : State) : Outcome := .next (opDcx .bc s)

/-- INR C (R522). -/
def execInrC (s : State) : Outcome := .next (opInr (.reg .c) s)

/-- DCR C (R524). -/
def execDcrC (s : State) : Outcome := .next (opDcr (.reg .c) s)

/-- INX D (R530). -/
def execInxD (s : State) : Outcome := .next (opInx .de s)

/-- INR D (R522). -/
def execInrD (s : State) : Outcome := .next (opInr (.reg .d) s)

/-- DCR D (R524). -/
def execDcrD (s : State) : Outcome := .next (opDcr (.reg .d) s)

/-- DAD D (R532). -/
def execDadD (s : State) : Outcome := .next (opDad .de s)

/-- DCX D (R531). -/
def execDcxD (s : State) : Outcome := .next (opDcx .de s)

/-- INR E (R522). -/
def execInrE (s : State) : Outcome := .next (opInr (.reg .e) s)

/-- DCR E (R524). -/
def execDcrE (s : State) : Outcome := .next (opDcr (.reg .e) s)

/-- INX H (R530). -/
def execInxH (s : State) : Outcome := .next (opInx .hl s)

/-- INR H (R522). -/
def execInrH (s : State) : Outcome := .next (opInr (.reg .h) s)

/-- DCR H (R524). -/
def execDcrH (s : State) : Outcome := .next (opDcr (.reg .h) s)

/-- DAA (R540). -/
def execDaa (s : State) : Outcome := .next (opDaa s)

/-- DAD H (R532). -/
def execDadH (s : State) : Outcome := .next (opDad .hl s)

/-- DCX H (R531). -/
def execDcxH (s : State) : Outcome := .next (opDcx .hl s)

/-- INR L (R522). -/
def execInrL (s : State) : Outcome := .next (opInr (.reg .l) s)

/-- DCR L (R524). -/
def execDcrL (s : State) : Outcome := .next (opDcr (.reg .l) s)

/-- INX SP (R530). -/
def execInxSp (s : State) : Outcome := .next (opInx .sp s)

/-- INR M (R523). -/
def execInrM (s : State) : Outcome := .next (opInr .mem s)

/-- DCR M (R525). -/
def execDcrM (s : State) : Outcome := .next (opDcr .mem s)

/-- DAD SP (R532). -/
def execDadSp (s : State) : Outcome := .next (opDad .sp s)

/-- DCX SP (R531). -/
def execDcxSp (s : State) : Outcome := .next (opDcx .sp s)

/-- INR A (R522). -/
def execInrA (s : State) : Outcome := .next (opInr (.reg .a) s)

/-- DCR A (R524). -/
def execDcrA (s : State) : Outcome := .next (opDcr (.reg .a) s)

/-- ADD B (R510). -/
def execAddB (s : State) : Outcome := .next (opAlu .add (.reg .b) s)

/-- ADD C (R510). -/
def execAddC (s : State) : Outcome := .next (opAlu .add (.reg .c) s)

/-- ADD D (R510). -/
def execAddD (s : State) : Outcome := .next (opAlu .add (.reg .d) s)

/-- ADD E (R510). -/
def execAddE (s : State) : Outcome := .next (opAlu .add (.reg .e) s)

/-- ADD H (R510). -/
def execAddH (s : State) : Outcome := .next (opAlu .add (.reg .h) s)

/-- ADD L (R510). -/
def execAddL (s : State) : Outcome := .next (opAlu .add (.reg .l) s)

/-- ADD M (R511). -/
def execAddM (s : State) : Outcome := .next (opAlu .add .mem s)

/-- ADD A (R510). -/
def execAddA (s : State) : Outcome := .next (opAlu .add (.reg .a) s)

/-- ADC B (R513). -/
def execAdcB (s : State) : Outcome := .next (opAlu .adc (.reg .b) s)

/-- ADC C (R513). -/
def execAdcC (s : State) : Outcome := .next (opAlu .adc (.reg .c) s)

/-- ADC D (R513). -/
def execAdcD (s : State) : Outcome := .next (opAlu .adc (.reg .d) s)

/-- ADC E (R513). -/
def execAdcE (s : State) : Outcome := .next (opAlu .adc (.reg .e) s)

/-- ADC H (R513). -/
def execAdcH (s : State) : Outcome := .next (opAlu .adc (.reg .h) s)

/-- ADC L (R513). -/
def execAdcL (s : State) : Outcome := .next (opAlu .adc (.reg .l) s)

/-- ADC M (R514). -/
def execAdcM (s : State) : Outcome := .next (opAlu .adc .mem s)

/-- ADC A (R513). -/
def execAdcA (s : State) : Outcome := .next (opAlu .adc (.reg .a) s)

/-- SUB B (R516). -/
def execSubB (s : State) : Outcome := .next (opAlu .sub (.reg .b) s)

/-- SUB C (R516). -/
def execSubC (s : State) : Outcome := .next (opAlu .sub (.reg .c) s)

/-- SUB D (R516). -/
def execSubD (s : State) : Outcome := .next (opAlu .sub (.reg .d) s)

/-- SUB E (R516). -/
def execSubE (s : State) : Outcome := .next (opAlu .sub (.reg .e) s)

/-- SUB H (R516). -/
def execSubH (s : State) : Outcome := .next (opAlu .sub (.reg .h) s)

/-- SUB L (R516). -/
def execSubL (s : State) : Outcome := .next (opAlu .sub (.reg .l) s)

/-- SUB M (R517). -/
def execSubM (s : State) : Outcome := .next (opAlu .sub .mem s)

/-- SUB A (R516). -/
def execSubA (s : State) : Outcome := .next (opAlu .sub (.reg .a) s)

/-- SBB B (R519). -/
def execSbbB (s : State) : Outcome := .next (opAlu .sbb (.reg .b) s)

/-- SBB C (R519). -/
def execSbbC (s : State) : Outcome := .next (opAlu .sbb (.reg .c) s)

/-- SBB D (R519). -/
def execSbbD (s : State) : Outcome := .next (opAlu .sbb (.reg .d) s)

/-- SBB E (R519). -/
def execSbbE (s : State) : Outcome := .next (opAlu .sbb (.reg .e) s)

/-- SBB H (R519). -/
def execSbbH (s : State) : Outcome := .next (opAlu .sbb (.reg .h) s)

/-- SBB L (R519). -/
def execSbbL (s : State) : Outcome := .next (opAlu .sbb (.reg .l) s)

/-- SBB M (R520). -/
def execSbbM (s : State) : Outcome := .next (opAlu .sbb .mem s)

/-- SBB A (R519). -/
def execSbbA (s : State) : Outcome := .next (opAlu .sbb (.reg .a) s)

/-- ADI d8 (R512). -/
def execAdi (v : Byte) (s : State) : Outcome := .next (opAluImm .add v s)

/-- ACI d8 (R515). -/
def execAci (v : Byte) (s : State) : Outcome := .next (opAluImm .adc v s)

/-- SUI d8 (R518). -/
def execSui (v : Byte) (s : State) : Outcome := .next (opAluImm .sub v s)

/-- SBI d8 (R521). -/
def execSbi (v : Byte) (s : State) : Outcome := .next (opAluImm .sbb v s)

end Sys2Proof.Machine
end

