-- ==== Sys2Proof/Machine/Branch.lean ====
section
/-! DEFINITION. Branch, call, return and restart instructions (43_branch.md R700 to R712). A branch that is not taken is
a no-op of its length; no instruction here writes a flag, and none writes `inte`. -/

namespace Sys2Proof.Machine

/-! ## The rules -/

/-- JMP a16 (R701). -/
def opJmp (addr : Word) (s : State) : State := (s.advance 3).setPc addr

/-- Jcc a16 (R702). -/
def opJcc (cc : Cond) (addr : Word) (s : State) : State :=
  if condHolds cc s.flags then opJmp addr s else s.advance 3

/-- CALL a16: the return address is the address after the call's last byte (R703, R709). -/
def opCall (addr : Word) (s : State) : State := ((s.advance 3).push16 (s.advance 3).pc).setPc addr

/-- Ccc a16 (R704). -/
def opCcc (cc : Cond) (addr : Word) (s : State) : State :=
  if condHolds cc s.flags then opCall addr s else s.advance 3

/-- RET (R705). -/
def opRet (s : State) : State := (s.advance 1).returnToTop

/-- Rcc (R706). -/
def opRcc (cc : Cond) (s : State) : State :=
  if condHolds cc s.flags then opRet s else s.advance 1

/-- RST n (R707). -/
def opRst (n : Fin 8) (s : State) : State := (s.advance 1).restart n

/-- PCHL (R708). -/
def opPchl (s : State) : State := (s.advance 1).setPc s.hl

/-! ## The instructions -/

/-- RNZ (R706). -/
def execRnz (s : State) : Outcome := .next (opRcc .nz s)

/-- JNZ a16 (R702). -/
def execJnz (addr : Word) (s : State) : Outcome := .next (opJcc .nz addr s)

/-- JMP a16 (R701). -/
def execJmp (addr : Word) (s : State) : Outcome := .next (opJmp addr s)

/-- CNZ a16 (R704). -/
def execCnz (addr : Word) (s : State) : Outcome := .next (opCcc .nz addr s)

/-- RST 0 (R707). -/
def execRst0 (s : State) : Outcome := .next (opRst 0 s)

/-- RZ (R706). -/
def execRz (s : State) : Outcome := .next (opRcc .z s)

/-- RET (R705). -/
def execRet (s : State) : Outcome := .next (opRet s)

/-- JZ a16 (R702). -/
def execJz (addr : Word) (s : State) : Outcome := .next (opJcc .z addr s)

/-- CZ a16 (R704). -/
def execCz (addr : Word) (s : State) : Outcome := .next (opCcc .z addr s)

/-- CALL a16 (R703). -/
def execCall (addr : Word) (s : State) : Outcome := .next (opCall addr s)

/-- RST 1 (R707). -/
def execRst1 (s : State) : Outcome := .next (opRst 1 s)

/-- RNC (R706). -/
def execRnc (s : State) : Outcome := .next (opRcc .nc s)

/-- JNC a16 (R702). -/
def execJnc (addr : Word) (s : State) : Outcome := .next (opJcc .nc addr s)

/-- CNC a16 (R704). -/
def execCnc (addr : Word) (s : State) : Outcome := .next (opCcc .nc addr s)

/-- RST 2 (R707). -/
def execRst2 (s : State) : Outcome := .next (opRst 2 s)

/-- RC (R706). -/
def execRc (s : State) : Outcome := .next (opRcc .c s)

/-- JC a16 (R702). -/
def execJc (addr : Word) (s : State) : Outcome := .next (opJcc .c addr s)

/-- CC a16 (R704). -/
def execCc (addr : Word) (s : State) : Outcome := .next (opCcc .c addr s)

/-- RST 3 (R707). -/
def execRst3 (s : State) : Outcome := .next (opRst 3 s)

/-- RPO (R706). -/
def execRpo (s : State) : Outcome := .next (opRcc .po s)

/-- JPO a16 (R702). -/
def execJpo (addr : Word) (s : State) : Outcome := .next (opJcc .po addr s)

/-- CPO a16 (R704). -/
def execCpo (addr : Word) (s : State) : Outcome := .next (opCcc .po addr s)

/-- RST 4 (R707). -/
def execRst4 (s : State) : Outcome := .next (opRst 4 s)

/-- RPE (R706). -/
def execRpe (s : State) : Outcome := .next (opRcc .pe s)

/-- PCHL (R708). -/
def execPchl (s : State) : Outcome := .next (opPchl s)

/-- JPE a16 (R702). -/
def execJpe (addr : Word) (s : State) : Outcome := .next (opJcc .pe addr s)

/-- CPE a16 (R704). -/
def execCpe (addr : Word) (s : State) : Outcome := .next (opCcc .pe addr s)

/-- RST 5 (R707). -/
def execRst5 (s : State) : Outcome := .next (opRst 5 s)

/-- RP (R706). -/
def execRp (s : State) : Outcome := .next (opRcc .p s)

/-- JP a16 (R702). -/
def execJp (addr : Word) (s : State) : Outcome := .next (opJcc .p addr s)

/-- CP a16 (R704). -/
def execCp (addr : Word) (s : State) : Outcome := .next (opCcc .p addr s)

/-- RST 6 (R707). -/
def execRst6 (s : State) : Outcome := .next (opRst 6 s)

/-- RM (R706). -/
def execRm (s : State) : Outcome := .next (opRcc .m s)

/-- JM a16 (R702). -/
def execJm (addr : Word) (s : State) : Outcome := .next (opJcc .m addr s)

/-- CM a16 (R704). -/
def execCm (addr : Word) (s : State) : Outcome := .next (opCcc .m addr s)

/-- RST 7 (R707). -/
def execRst7 (s : State) : Outcome := .next (opRst 7 s)

end Sys2Proof.Machine
end

