-- ==== Sys2Proof/Machine/DataTransfer.lean ====
section
/-! DEFINITION. Data transfer instructions (40_data_transfer.md R400 to R412): one operation per rule, then one
meaning per instruction. Each ends with PC past the instruction; none writes a flag. -/

namespace Sys2Proof.Machine

/-! ## The rules -/

/-- MOV r1,r2 (R400). -/
def opMovRR (dst src : Reg8) (s : State) : State := (s.advance 1).setReg dst (s.getReg src)

/-- MOV r,M: the read uses HL as it was before the write (R401). -/
def opMovRM (dst : Reg8) (s : State) : State := (s.advance 1).setReg dst (s.readByte s.hl)

/-- MOV M,r (R402). -/
def opMovMR (src : Reg8) (s : State) : State := (s.advance 1).writeByte s.hl (s.getReg src)

/-- MVI r,d8 (R403). -/
def opMviR (dst : Reg8) (v : Byte) (s : State) : State := (s.advance 2).setReg dst v

/-- MVI M,d8 (R404). -/
def opMviM (v : Byte) (s : State) : State := (s.advance 2).writeByte s.hl v

/-- LXI rp,d16 (R405). -/
def opLxi (rp : RegPair) (v : Word) (s : State) : State := (s.advance 3).setPair rp v

/-- LDA a16 (R406). -/
def opLda (addr : Word) (s : State) : State := (s.advance 3).setReg .a (s.readByte addr)

/-- STA a16 (R407). -/
def opSta (addr : Word) (s : State) : State := (s.advance 3).writeByte addr (s.getReg .a)

/-- LHLD a16 (R408). -/
def opLhld (addr : Word) (s : State) : State := (s.advance 3).setHl (s.readWord addr)

/-- SHLD a16 (R409). -/
def opShld (addr : Word) (s : State) : State := (s.advance 3).writeWord addr s.hl

/-- LDAX rp (R410). -/
def opLdax (rp : IndirectPair) (s : State) : State := (s.advance 1).setReg .a (s.readByte (s.pointer rp))

/-- STAX rp (R411). -/
def opStax (rp : IndirectPair) (s : State) : State := (s.advance 1).writeByte (s.pointer rp) (s.getReg .a)

/-- XCHG (R412). -/
def opXchg (s : State) : State := ((s.advance 1).setHl s.de).setDe s.hl

/-! ## The instructions -/

/-- LXI B,d16 (R405). -/
def execLxiB (v : Word) (s : State) : Outcome := .next (opLxi .bc v s)

/-- STAX B (R411). -/
def execStaxB (s : State) : Outcome := .next (opStax .bc s)

/-- MVI B,d8 (R403). -/
def execMviB (v : Byte) (s : State) : Outcome := .next (opMviR .b v s)

/-- LDAX B (R410). -/
def execLdaxB (s : State) : Outcome := .next (opLdax .bc s)

/-- MVI C,d8 (R403). -/
def execMviC (v : Byte) (s : State) : Outcome := .next (opMviR .c v s)

/-- LXI D,d16 (R405). -/
def execLxiD (v : Word) (s : State) : Outcome := .next (opLxi .de v s)

/-- STAX D (R411). -/
def execStaxD (s : State) : Outcome := .next (opStax .de s)

/-- MVI D,d8 (R403). -/
def execMviD (v : Byte) (s : State) : Outcome := .next (opMviR .d v s)

/-- LDAX D (R410). -/
def execLdaxD (s : State) : Outcome := .next (opLdax .de s)

/-- MVI E,d8 (R403). -/
def execMviE (v : Byte) (s : State) : Outcome := .next (opMviR .e v s)

/-- LXI H,d16 (R405). -/
def execLxiH (v : Word) (s : State) : Outcome := .next (opLxi .hl v s)

/-- SHLD a16 (R409). -/
def execShld (addr : Word) (s : State) : Outcome := .next (opShld addr s)

/-- MVI H,d8 (R403). -/
def execMviH (v : Byte) (s : State) : Outcome := .next (opMviR .h v s)

/-- LHLD a16 (R408). -/
def execLhld (addr : Word) (s : State) : Outcome := .next (opLhld addr s)

/-- MVI L,d8 (R403). -/
def execMviL (v : Byte) (s : State) : Outcome := .next (opMviR .l v s)

/-- LXI SP,d16 (R405). -/
def execLxiSp (v : Word) (s : State) : Outcome := .next (opLxi .sp v s)

/-- STA a16 (R407). -/
def execSta (addr : Word) (s : State) : Outcome := .next (opSta addr s)

/-- MVI M,d8 (R404). -/
def execMviM (v : Byte) (s : State) : Outcome := .next (opMviM v s)

/-- LDA a16 (R406). -/
def execLda (addr : Word) (s : State) : Outcome := .next (opLda addr s)

/-- MVI A,d8 (R403). -/
def execMviA (v : Byte) (s : State) : Outcome := .next (opMviR .a v s)

/-- MOV B,B (R400). -/
def execMovBB (s : State) : Outcome := .next (opMovRR .b .b s)

/-- MOV B,C (R400). -/
def execMovBC (s : State) : Outcome := .next (opMovRR .b .c s)

/-- MOV B,D (R400). -/
def execMovBD (s : State) : Outcome := .next (opMovRR .b .d s)

/-- MOV B,E (R400). -/
def execMovBE (s : State) : Outcome := .next (opMovRR .b .e s)

/-- MOV B,H (R400). -/
def execMovBH (s : State) : Outcome := .next (opMovRR .b .h s)

/-- MOV B,L (R400). -/
def execMovBL (s : State) : Outcome := .next (opMovRR .b .l s)

/-- MOV B,M (R401). -/
def execMovBM (s : State) : Outcome := .next (opMovRM .b s)

/-- MOV B,A (R400). -/
def execMovBA (s : State) : Outcome := .next (opMovRR .b .a s)

/-- MOV C,B (R400). -/
def execMovCB (s : State) : Outcome := .next (opMovRR .c .b s)

/-- MOV C,C (R400). -/
def execMovCC (s : State) : Outcome := .next (opMovRR .c .c s)

/-- MOV C,D (R400). -/
def execMovCD (s : State) : Outcome := .next (opMovRR .c .d s)

/-- MOV C,E (R400). -/
def execMovCE (s : State) : Outcome := .next (opMovRR .c .e s)

/-- MOV C,H (R400). -/
def execMovCH (s : State) : Outcome := .next (opMovRR .c .h s)

/-- MOV C,L (R400). -/
def execMovCL (s : State) : Outcome := .next (opMovRR .c .l s)

/-- MOV C,M (R401). -/
def execMovCM (s : State) : Outcome := .next (opMovRM .c s)

/-- MOV C,A (R400). -/
def execMovCA (s : State) : Outcome := .next (opMovRR .c .a s)

/-- MOV D,B (R400). -/
def execMovDB (s : State) : Outcome := .next (opMovRR .d .b s)

/-- MOV D,C (R400). -/
def execMovDC (s : State) : Outcome := .next (opMovRR .d .c s)

/-- MOV D,D (R400). -/
def execMovDD (s : State) : Outcome := .next (opMovRR .d .d s)

/-- MOV D,E (R400). -/
def execMovDE (s : State) : Outcome := .next (opMovRR .d .e s)

/-- MOV D,H (R400). -/
def execMovDH (s : State) : Outcome := .next (opMovRR .d .h s)

/-- MOV D,L (R400). -/
def execMovDL (s : State) : Outcome := .next (opMovRR .d .l s)

/-- MOV D,M (R401). -/
def execMovDM (s : State) : Outcome := .next (opMovRM .d s)

/-- MOV D,A (R400). -/
def execMovDA (s : State) : Outcome := .next (opMovRR .d .a s)

/-- MOV E,B (R400). -/
def execMovEB (s : State) : Outcome := .next (opMovRR .e .b s)

/-- MOV E,C (R400). -/
def execMovEC (s : State) : Outcome := .next (opMovRR .e .c s)

/-- MOV E,D (R400). -/
def execMovED (s : State) : Outcome := .next (opMovRR .e .d s)

/-- MOV E,E (R400). -/
def execMovEE (s : State) : Outcome := .next (opMovRR .e .e s)

/-- MOV E,H (R400). -/
def execMovEH (s : State) : Outcome := .next (opMovRR .e .h s)

/-- MOV E,L (R400). -/
def execMovEL (s : State) : Outcome := .next (opMovRR .e .l s)

/-- MOV E,M (R401). -/
def execMovEM (s : State) : Outcome := .next (opMovRM .e s)

/-- MOV E,A (R400). -/
def execMovEA (s : State) : Outcome := .next (opMovRR .e .a s)

/-- MOV H,B (R400). -/
def execMovHB (s : State) : Outcome := .next (opMovRR .h .b s)

/-- MOV H,C (R400). -/
def execMovHC (s : State) : Outcome := .next (opMovRR .h .c s)

/-- MOV H,D (R400). -/
def execMovHD (s : State) : Outcome := .next (opMovRR .h .d s)

/-- MOV H,E (R400). -/
def execMovHE (s : State) : Outcome := .next (opMovRR .h .e s)

/-- MOV H,H (R400). -/
def execMovHH (s : State) : Outcome := .next (opMovRR .h .h s)

/-- MOV H,L (R400). -/
def execMovHL (s : State) : Outcome := .next (opMovRR .h .l s)

/-- MOV H,M (R401). -/
def execMovHM (s : State) : Outcome := .next (opMovRM .h s)

/-- MOV H,A (R400). -/
def execMovHA (s : State) : Outcome := .next (opMovRR .h .a s)

/-- MOV L,B (R400). -/
def execMovLB (s : State) : Outcome := .next (opMovRR .l .b s)

/-- MOV L,C (R400). -/
def execMovLC (s : State) : Outcome := .next (opMovRR .l .c s)

/-- MOV L,D (R400). -/
def execMovLD (s : State) : Outcome := .next (opMovRR .l .d s)

/-- MOV L,E (R400). -/
def execMovLE (s : State) : Outcome := .next (opMovRR .l .e s)

/-- MOV L,H (R400). -/
def execMovLH (s : State) : Outcome := .next (opMovRR .l .h s)

/-- MOV L,L (R400). -/
def execMovLL (s : State) : Outcome := .next (opMovRR .l .l s)

/-- MOV L,M (R401). -/
def execMovLM (s : State) : Outcome := .next (opMovRM .l s)

/-- MOV L,A (R400). -/
def execMovLA (s : State) : Outcome := .next (opMovRR .l .a s)

/-- MOV M,B (R402). -/
def execMovMB (s : State) : Outcome := .next (opMovMR .b s)

/-- MOV M,C (R402). -/
def execMovMC (s : State) : Outcome := .next (opMovMR .c s)

/-- MOV M,D (R402). -/
def execMovMD (s : State) : Outcome := .next (opMovMR .d s)

/-- MOV M,E (R402). -/
def execMovME (s : State) : Outcome := .next (opMovMR .e s)

/-- MOV M,H (R402). -/
def execMovMH (s : State) : Outcome := .next (opMovMR .h s)

/-- MOV M,L (R402). -/
def execMovML (s : State) : Outcome := .next (opMovMR .l s)

/-- MOV M,A (R402). -/
def execMovMA (s : State) : Outcome := .next (opMovMR .a s)

/-- MOV A,B (R400). -/
def execMovAB (s : State) : Outcome := .next (opMovRR .a .b s)

/-- MOV A,C (R400). -/
def execMovAC (s : State) : Outcome := .next (opMovRR .a .c s)

/-- MOV A,D (R400). -/
def execMovAD (s : State) : Outcome := .next (opMovRR .a .d s)

/-- MOV A,E (R400). -/
def execMovAE (s : State) : Outcome := .next (opMovRR .a .e s)

/-- MOV A,H (R400). -/
def execMovAH (s : State) : Outcome := .next (opMovRR .a .h s)

/-- MOV A,L (R400). -/
def execMovAL (s : State) : Outcome := .next (opMovRR .a .l s)

/-- MOV A,M (R401). -/
def execMovAM (s : State) : Outcome := .next (opMovRM .a s)

/-- MOV A,A (R400). -/
def execMovAA (s : State) : Outcome := .next (opMovRR .a .a s)

/-- XCHG (R412). -/
def execXchg (s : State) : Outcome := .next (opXchg s)

end Sys2Proof.Machine
end

