-- ==== Sys2Proof/Machine/Logical.lean ====
section
/-! DEFINITION. Logical, compare, rotate and flag instructions (42_logical.md R610 to R642); the ALU operations are
those of Arithmetic.lean. -/

namespace Sys2Proof.Machine

/-! ## The rules -/

/-- A rotate: it writes A, and CY as its only flag (R602). -/
def State.rotate (s : State) (r : Byte × Bool) : State := ((s.advance 1).setReg .a r.1).setCarry r.2

/-- RLC (R630). -/
def opRlc (s : State) : State := s.rotate (rlc8 (s.getReg .a))

/-- RRC (R631). -/
def opRrc (s : State) : State := s.rotate (rrc8 (s.getReg .a))

/-- RAL (R632). -/
def opRal (s : State) : State := s.rotate (ral8 (s.getReg .a) s.flags.cy)

/-- RAR (R633). -/
def opRar (s : State) : State := s.rotate (rar8 (s.getReg .a) s.flags.cy)

/-- CMA: no flag is written (R640). -/
def opCma (s : State) : State := (s.advance 1).setReg .a (~~~(s.getReg .a))

/-- CMC (R641). -/
def opCmc (s : State) : State := (s.advance 1).setCarry (!s.flags.cy)

/-- STC (R642). -/
def opStc (s : State) : State := (s.advance 1).setCarry true

/-! ## The instructions -/

/-- RLC (R630). -/
def execRlc (s : State) : Outcome := .next (opRlc s)

/-- RRC (R631). -/
def execRrc (s : State) : Outcome := .next (opRrc s)

/-- RAL (R632). -/
def execRal (s : State) : Outcome := .next (opRal s)

/-- RAR (R633). -/
def execRar (s : State) : Outcome := .next (opRar s)

/-- CMA (R640). -/
def execCma (s : State) : Outcome := .next (opCma s)

/-- STC (R642). -/
def execStc (s : State) : Outcome := .next (opStc s)

/-- CMC (R641). -/
def execCmc (s : State) : Outcome := .next (opCmc s)

/-- ANA B (R610). -/
def execAnaB (s : State) : Outcome := .next (opAlu .ana (.reg .b) s)

/-- ANA C (R610). -/
def execAnaC (s : State) : Outcome := .next (opAlu .ana (.reg .c) s)

/-- ANA D (R610). -/
def execAnaD (s : State) : Outcome := .next (opAlu .ana (.reg .d) s)

/-- ANA E (R610). -/
def execAnaE (s : State) : Outcome := .next (opAlu .ana (.reg .e) s)

/-- ANA H (R610). -/
def execAnaH (s : State) : Outcome := .next (opAlu .ana (.reg .h) s)

/-- ANA L (R610). -/
def execAnaL (s : State) : Outcome := .next (opAlu .ana (.reg .l) s)

/-- ANA M (R611). -/
def execAnaM (s : State) : Outcome := .next (opAlu .ana .mem s)

/-- ANA A (R610). -/
def execAnaA (s : State) : Outcome := .next (opAlu .ana (.reg .a) s)

/-- XRA B (R613). -/
def execXraB (s : State) : Outcome := .next (opAlu .xra (.reg .b) s)

/-- XRA C (R613). -/
def execXraC (s : State) : Outcome := .next (opAlu .xra (.reg .c) s)

/-- XRA D (R613). -/
def execXraD (s : State) : Outcome := .next (opAlu .xra (.reg .d) s)

/-- XRA E (R613). -/
def execXraE (s : State) : Outcome := .next (opAlu .xra (.reg .e) s)

/-- XRA H (R613). -/
def execXraH (s : State) : Outcome := .next (opAlu .xra (.reg .h) s)

/-- XRA L (R613). -/
def execXraL (s : State) : Outcome := .next (opAlu .xra (.reg .l) s)

/-- XRA M (R614). -/
def execXraM (s : State) : Outcome := .next (opAlu .xra .mem s)

/-- XRA A (R613). -/
def execXraA (s : State) : Outcome := .next (opAlu .xra (.reg .a) s)

/-- ORA B (R616). -/
def execOraB (s : State) : Outcome := .next (opAlu .ora (.reg .b) s)

/-- ORA C (R616). -/
def execOraC (s : State) : Outcome := .next (opAlu .ora (.reg .c) s)

/-- ORA D (R616). -/
def execOraD (s : State) : Outcome := .next (opAlu .ora (.reg .d) s)

/-- ORA E (R616). -/
def execOraE (s : State) : Outcome := .next (opAlu .ora (.reg .e) s)

/-- ORA H (R616). -/
def execOraH (s : State) : Outcome := .next (opAlu .ora (.reg .h) s)

/-- ORA L (R616). -/
def execOraL (s : State) : Outcome := .next (opAlu .ora (.reg .l) s)

/-- ORA M (R617). -/
def execOraM (s : State) : Outcome := .next (opAlu .ora .mem s)

/-- ORA A (R616). -/
def execOraA (s : State) : Outcome := .next (opAlu .ora (.reg .a) s)

/-- CMP B (R619). -/
def execCmpB (s : State) : Outcome := .next (opAlu .cmp (.reg .b) s)

/-- CMP C (R619). -/
def execCmpC (s : State) : Outcome := .next (opAlu .cmp (.reg .c) s)

/-- CMP D (R619). -/
def execCmpD (s : State) : Outcome := .next (opAlu .cmp (.reg .d) s)

/-- CMP E (R619). -/
def execCmpE (s : State) : Outcome := .next (opAlu .cmp (.reg .e) s)

/-- CMP H (R619). -/
def execCmpH (s : State) : Outcome := .next (opAlu .cmp (.reg .h) s)

/-- CMP L (R619). -/
def execCmpL (s : State) : Outcome := .next (opAlu .cmp (.reg .l) s)

/-- CMP M (R620). -/
def execCmpM (s : State) : Outcome := .next (opAlu .cmp .mem s)

/-- CMP A (R619). -/
def execCmpA (s : State) : Outcome := .next (opAlu .cmp (.reg .a) s)

/-- ANI d8 (R612). -/
def execAni (v : Byte) (s : State) : Outcome := .next (opAluImm .ana v s)

/-- XRI d8 (R615). -/
def execXri (v : Byte) (s : State) : Outcome := .next (opAluImm .xra v s)

/-- ORI d8 (R618). -/
def execOri (v : Byte) (s : State) : Outcome := .next (opAluImm .ora v s)

/-- CPI d8 (R621). -/
def execCpi (v : Byte) (s : State) : Outcome := .next (opAluImm .cmp v s)

end Sys2Proof.Machine
end

