-- ==== Sys2Proof/Machine/StackIoMachine.lean ====
section
/-! DEFINITION. Stack, I/O and machine-control instructions (44_stack_io_machine.md R803 to R814). -/

namespace Sys2Proof.Machine

/-! ## The rules -/

/-- PUSH rp and PUSH PSW (R803, R804). -/
def opPush (rp : StackPair) (s : State) : State := (s.advance 1).push16 (s.getStackPair rp)

/-- POP rp and POP PSW (R805, R806). -/
def opPop (rp : StackPair) (s : State) : State := (s.advance 1).dropTop.setStackPair rp s.top16

/-- XTHL: SP is unchanged (R807). -/
def opXthl (s : State) : State := ((s.advance 1).writeWord s.sp s.hl).setHl (s.readWord s.sp)

/-- SPHL (R808). -/
def opSphl (s : State) : State := (s.advance 1).setSp s.hl

/-- IN p8 (R809). -/
def opIn (port : Byte) (s : State) : State := ((s.advance 2).portRead port).setReg .a (s.inputByte port)

/-- OUT p8 (R810). -/
def opOut (port : Byte) (s : State) : State := (s.advance 2).portWrite port (s.getReg .a)

/-- EI: `inte <- 1; ei_delay <- EI_DELAY` (R811). -/
def opEi (s : State) : State := { s.advance 1 with inte := true, eiDelay := s.params.eiDelay }

/-- DI: it takes effect at once (R812). -/
def opDi (s : State) : State := { s.advance 1 with inte := false }

/-- HLT: PC moves past the instruction as usual (R813). -/
def opHlt (s : State) : State := { s.advance 1 with halted := true }

/-- NOP (R814). -/
def opNop (s : State) : State := s.advance 1

/-! ## The instructions -/

/-- NOP (R814). -/
def execNop (s : State) : Outcome := .next (opNop s)

/-- HLT (R813). -/
def execHlt (s : State) : Outcome := .next (opHlt s)

/-- POP B (R805). -/
def execPopB (s : State) : Outcome := .next (opPop .bc s)

/-- PUSH B (R803). -/
def execPushB (s : State) : Outcome := .next (opPush .bc s)

/-- POP D (R805). -/
def execPopD (s : State) : Outcome := .next (opPop .de s)

/-- OUT d8 (R810). -/
def execOut (port : Byte) (s : State) : Outcome := .next (opOut port s)

/-- PUSH D (R803). -/
def execPushD (s : State) : Outcome := .next (opPush .de s)

/-- IN d8 (R809). -/
def execInp (port : Byte) (s : State) : Outcome := .next (opIn port s)

/-- POP H (R805). -/
def execPopH (s : State) : Outcome := .next (opPop .hl s)

/-- XTHL (R807). -/
def execXthl (s : State) : Outcome := .next (opXthl s)

/-- PUSH H (R803). -/
def execPushH (s : State) : Outcome := .next (opPush .hl s)

/-- POP PSW (R806). -/
def execPopPsw (s : State) : Outcome := .next (opPop .psw s)

/-- DI (R812). -/
def execDi (s : State) : Outcome := .next (opDi s)

/-- PUSH PSW (R804). -/
def execPushPsw (s : State) : Outcome := .next (opPush .psw s)

/-- SPHL (R808). -/
def execSphl (s : State) : Outcome := .next (opSphl s)

/-- EI (R811). -/
def execEi (s : State) : Outcome := .next (opEi s)

end Sys2Proof.Machine
end

