-- ==== Sys2Proof/Machine/Step.lean ====
section
/-! DEFINITION. One step (44_stack_io_machine.md R820, R822), over the operations of Ops.lean; and the placing of one
instruction where the next step fetches. -/

namespace Sys2Proof.Machine

/-- `step(s)`: a halted core answers its state unchanged; a running one fetches, decodes and executes one instruction, then
settles `ei_delay` (R820, R822). What the step returns to the host is `stepResult` (Sys2Proof/Machine/Result.lean). -/
def step (s : State) : Host.Outcome State Fault Refusal :=
  if s.halted then .next s.haltedStep
  else
    match exec s.fetch s with
    | .next t => .next (t.retire s.fetch)
    | .fault r => .fault r
    | .refused r => .refused r

/-- `s` with the instruction whose bits are `w` stored at PC, and running, so that the next step fetches and runs it.
It stands for the host's load of a program (R240) or its poke of memory (R141). Log entry 7. -/
def State.withFetchWord (s : State) (nbits w : Nat) : State :=
  State.writeBytes { s with halted := false } s.pc (tableBytes nbits w)

end Sys2Proof.Machine
end

