-- ==== Sys2Proof/Machine/Accesses.lean ====
section
/-! DEFINITION. The memory and port accesses of one step (20_memory.md R211, R212, R251): the fetches, then the reads,
then the writes, each in the order of the instruction's rule. They are an output and no state: R251 fixes the order for event
traces alone, since memory has no side effects (R213). -/

namespace Sys2Proof.Machine

/-- One byte access of a step. -/
inductive Access where
  /-- An opcode or operand byte, fetched. -/
  | fetch (addr : Word)
  /-- A byte that the instruction reads. -/
  | read (addr : Word)
  /-- A byte that the instruction writes, and its value. -/
  | write (addr : Word) (value : Byte)
  /-- The port read of IN. -/
  | portRead (port : Byte)
  /-- The port write of OUT, and its value. -/
  | portWrite (port value : Byte)
deriving DecidableEq, Repr

/-- The byte accesses of a word read at `a` (R209). -/
def wordRead (a : Word) : List Access := [.read a, .read (a + 1)]

/-- The byte accesses of a word write at `a` (R209). -/
def wordWrite (a v : Word) : List Access := [.write a (loByte v), .write (a + 1) (hiByte v)]

/-- The byte accesses of `push16(v)` with SP at `sp`: the high byte first (R801). -/
def pushWrite (sp v : Word) : List Access := [.write (sp - 1) (hiByte v), .write (sp - 2) (loByte v)]

/-- The read of an 8-bit operand: one byte for M, none for a register (R211). -/
def operandRead (x : Operand8) (s : State) : List Access :=
  match x with
  | .reg _ => []
  | .mem => [.read s.hl]

/-- The write of an 8-bit operand. -/
def operandWrite (x : Operand8) (v : Byte) (s : State) : List Access :=
  match x with
  | .reg _ => []
  | .mem => [.write s.hl v]

/-- The fetches of an instruction: as many bytes as it is long, from PC on (R251, R310). -/
def fetchAccesses (i : Instr) (s : State) : List Access :=
  ([0, 1, 2].take i.length).map fun k => .fetch (s.pc + BitVec.ofNat 16 k)

/-- The reads and then the writes of an instruction, in the order of its rule, its port access among them (R211, R251). -/
def Form.accesses (i : Form) (s : State) : List Access :=
  let next := s.pc + BitVec.ofNat 16 i.length
  match i with
  | .movRM _ => [.read s.hl]
  | .movMR src => [.write s.hl (s.getReg src)]
  | .mviM v => [.write s.hl v]
  | .lda addr => [.read addr]
  | .sta addr => [.write addr (s.getReg .a)]
  | .lhld addr => wordRead addr
  | .shld addr => wordWrite addr s.hl
  | .ldax rp => [.read (s.pointer rp)]
  | .stax rp => [.write (s.pointer rp) (s.getReg .a)]
  | .alu _ x => operandRead x s
  | .inr x => operandRead x s ++ operandWrite x (s.src8 x + 1) s
  | .dcr x => operandRead x s ++ operandWrite x (s.src8 x - 1) s
  | .call _ => pushWrite s.sp next
  | .ccc cc _ => if condHolds cc s.flags then pushWrite s.sp next else []
  | .ret => wordRead s.sp
  | .rcc cc => if condHolds cc s.flags then wordRead s.sp else []
  | .rst _ => pushWrite s.sp next
  | .push rp => pushWrite s.sp (s.getStackPair rp)
  | .pop _ => wordRead s.sp
  | .xthl => wordRead s.sp ++ wordWrite s.sp s.hl
  | .inp port => [.portRead port]
  | .out port => [.portWrite port (s.getReg .a)]
  | .movRR _ _ | .mviR _ _ | .lxi _ _ | .xchg | .aluImm _ _ | .inx _ | .dcx _ | .dad _ | .daa => []
  | .rlc | .rrc | .ral | .rar | .cma | .cmc | .stc => []
  | .jmp _ | .jcc _ _ | .pchl | .sphl | .ei | .di | .hlt | .nop => []

/-- The reads and writes of an instruction. -/
def dataAccesses (i : Instr) (s : State) : List Access := Form.accesses i.form s

/-- All accesses of the step from `s`; a halted step makes none (R822). -/
def stepAccesses (s : State) : List Access :=
  if s.halted then [] else fetchAccesses s.fetch s ++ dataAccesses s.fetch s

/-- The writes of a list of accesses, in order. -/
def writesOf (accs : List Access) : List (Word × Byte) :=
  match accs with
  | [] => []
  | .write a v :: rest => (a, v) :: writesOf rest
  | _ :: rest => writesOf rest

/-- Memory after writes, the first of the list first. -/
def Memory.applyWrites (m : Memory) (writes : List (Word × Byte)) : Memory :=
  match writes with
  | [] => m
  | (a, v) :: rest => Memory.applyWrites (m.write a v) rest

end Sys2Proof.Machine
end

