-- ==== Sys2Proof/Machine/Result.lean ====
section
/-! DEFINITION. What a step returns to the host (44_stack_io_machine.md R821): the decoded instruction and its T-state
count, or Halted; and the T-state table (70_reset_and_hazards.md R1020). It is an output and no state (R1021): it is
computed from the state before the step. -/

namespace Sys2Proof.Machine

/-- The T-states of an ALU, increment or load operand: one value for a register, another for M. -/
def byOperand (x : Operand8) (onReg onMem : Nat) : Nat :=
  match x with
  | .reg _ => onReg
  | .mem => onMem

/-- The T-state count of an instruction executed with flags `f`; of Ccc and Rcc, the count of the path taken (R712, R1020). -/
def Form.tstates (i : Form) (f : Flags) : Nat :=
  match i with
  | .movRR _ _ => 5
  | .movRM _ => 7
  | .movMR _ => 7
  | .mviR _ _ => 7
  | .mviM _ => 10
  | .lxi _ _ => 10
  | .lda _ => 13
  | .sta _ => 13
  | .lhld _ => 16
  | .shld _ => 16
  | .ldax _ => 7
  | .stax _ => 7
  | .xchg => 4
  | .alu _ x => byOperand x 4 7
  | .aluImm _ _ => 7
  | .inr x => byOperand x 5 10
  | .dcr x => byOperand x 5 10
  | .inx _ => 5
  | .dcx _ => 5
  | .dad _ => 10
  | .daa => 4
  | .rlc => 4
  | .rrc => 4
  | .ral => 4
  | .rar => 4
  | .cma => 4
  | .cmc => 4
  | .stc => 4
  | .jmp _ => 10
  | .jcc _ _ => 10
  | .call _ => 17
  | .ccc cc _ => if condHolds cc f then 17 else 11
  | .ret => 10
  | .rcc cc => if condHolds cc f then 11 else 5
  | .rst _ => 11
  | .pchl => 5
  | .push _ => 11
  | .pop _ => 10
  | .xthl => 18
  | .sphl => 5
  | .inp _ => 10
  | .out _ => 10
  | .ei => 4
  | .di => 4
  | .hlt => 7
  | .nop => 4

/-- The T-state count of an instruction. -/
def tstates (i : Instr) (f : Flags) : Nat := Form.tstates i.form f

/-- The T-states that interrupt acceptance reports (R912, R1020, 92_eei_decisions.md D17). -/
def acceptTstates : Nat := 11

/-- What a step returns (R821). -/
inductive StepResult where
  /-- `Ok(ins, t)`. -/
  | ok (i : Instr) (t : Nat)
  /-- `Halted`, the only ExecutionError: the end of a run, and no fault (R901, R823). -/
  | halted
deriving DecidableEq, Repr

/-- What the step from `s` returns: a halted step reports no T-states (R822). -/
def stepResult (s : State) : StepResult :=
  if s.halted then .halted else .ok s.fetch (tstates s.fetch s.flags)

end Sys2Proof.Machine
end

