-- ==== Sys2Proof/Machine/HostInterface.lean ====
section
/-! DEFINITION. The host's operations on the core (44_stack_io_machine.md R830): construction, interrupt requests, reset,
the accessors, and runs. Each is atomic and happens between steps. The host has no operation that writes `halted`, `inte`
or `ei_delay` directly (10_state.md R141). -/

namespace Sys2Proof.Machine

/-! ## Construction (R240, R241, R1000) -/

/-- An image as the host hands it over: its bytes, or the fact that it could not be read (R241, R901). -/
inductive Image where
  | bytes (data : List Byte)
  | unreadable
deriving DecidableEq, Repr

/-- `ConstructionError` (R901). -/
inductive ConstructionError where
  /-- An image cannot be read. -/
  | imageUnreadable
  /-- `offset + total image size > 65536`. -/
  | addressSpaceOverflow
deriving DecidableEq, Repr

/-- The images' bytes one after another with no gap, or `none` when one cannot be read (R240). -/
def imageBytes (images : List Image) : Option (List Byte) :=
  match images with
  | [] => some []
  | .unreadable :: _ => none
  | .bytes data :: rest => (imageBytes rest).map (data ++ ·)

/-- `new(images, offset)` with the host's parameters (R1000): the reset state of R140 around the loaded memory, every
other byte 0, or the error that fails the whole construction. -/
def construct (p : Params) (images : List Image) (offset : Word) : Except ConstructionError State :=
  match imageBytes images with
  | none => .error .imageUnreadable
  | some data =>
    if offset.toNat + data.length > 65536 then .error .addressSpaceOverflow
    else .ok (.initial p (Memory.writeBytes [] offset data))

/-! ## The operations between steps -/

/-- `reset()`: every register, flag and control bit back to its value of R140; memory, the port hooks and the I/O history
are kept (R1002). -/
def State.hostReset (s : State) : State := { State.initial s.params s.mem with io := s.io }

/-- `interrupt(n)`: accepted exactly when the core may accept; a refused request has no effect and is not kept (R910,
R911). -/
def State.interrupt (s : State) (n : Fin 8) : State := if s.canAccept then s.acceptInterrupt n else s

/-- What the host may do to the core between steps (R830, R141). -/
inductive HostAction where
  | step
  | interrupt (n : Fin 8)
  | reset
  | setReg (r : Reg8) (v : Byte)
  | setPair (rp : RegPair) (v : Word)
  | setPc (v : Word)
  | setFlags (v : Byte)
  | pokeByte (addr : Word) (v : Byte)
  | pokeWord (addr v : Word)
  | getReg (r : Reg8)
  | getPair (rp : RegPair)
  | getPc
  | getFlags
  | peekByte (addr : Word)
  | peekWord (addr : Word)
  | queryHalted
deriving DecidableEq, Repr

/-- What the core gives back (R830). -/
inductive HostReply where
  /-- The result of a step (R821). -/
  | stepped (r : StepResult)
  /-- `Accepted(RST n, 11)` (R911, R912). -/
  | accepted (i : Instr) (t : Nat)
  /-- `NotAccepted` (R911). -/
  | notAccepted
  /-- Nothing: the answer of a set, a poke or a reset. -/
  | done
  | byte (v : Byte)
  | word (v : Word)
  | flag (v : Bool)
deriving DecidableEq, Repr

/-- One host operation: what the core gives back, and the state after it. A set of the flags byte unpacks it, and a get
packs it (R141). -/
def hostAct (act : HostAction) (s : State) : Host.Outcome (HostReply × State) Fault Refusal :=
  match act with
  | .step =>
    match step s with
    | .next t => .next (.stepped (stepResult s), t)
    | .fault r => .fault r
    | .refused r => .refused r
  | .interrupt n => .next (if s.canAccept then .accepted (rstInstr n) acceptTstates else .notAccepted, s.interrupt n)
  | .reset => .next (.done, s.hostReset)
  | .setReg r v => .next (.done, s.setReg r v)
  | .setPair rp v => .next (.done, s.setPair rp v)
  | .setPc v => .next (.done, s.setPc v)
  | .setFlags v => .next (.done, s.setFlags (.unpack v))
  | .pokeByte addr v => .next (.done, s.writeByte addr v)
  | .pokeWord addr v => .next (.done, s.writeWord addr v)
  | .getReg r => .next (.byte (s.getReg r), s)
  | .getPair rp => .next (.word (s.getPair rp), s)
  | .getPc => .next (.word s.pc, s)
  | .getFlags => .next (.byte s.flags.pack, s)
  | .peekByte addr => .next (.byte (s.readByte addr), s)
  | .peekWord addr => .next (.word (s.readWord addr), s)
  | .queryHalted => .next (.flag s.halted, s)

/-- The host's operations `acts` one after another from state `s`: the core's replies, oldest first, and the state after
the last. A step that returns Halted ends no such sequence: the host may still ask for an interrupt (R911). -/
def hostTrace (acts : List HostAction) (s : State) : Host.Outcome (List HostReply × State) Fault Refusal :=
  match acts with
  | [] => .next ([], s)
  | act :: rest =>
    match hostAct act s with
    | .next (reply, t) =>
      match hostTrace rest t with
      | .next (replies, u) => .next (reply :: replies, u)
      | .fault r => .fault r
      | .refused r => .refused r
    | .fault r => .fault r
    | .refused r => .refused r

/-! ## Runs (R823) -/

/-- A run so far: the state it has reached, the core's replies, oldest first, and whether it has ended. -/
structure Run where
  state : State
  replies : List HostReply
  ended : Bool
deriving DecidableEq, Repr

/-- The host's operations `acts` from state `s`. The run ends at the first step that returns Halted, which leaves the state
unchanged; a run that makes none has not ended (R823). -/
def hostRun (acts : List HostAction) (s : State) : Host.Outcome Run Fault Refusal :=
  match acts with
  | [] => .next { state := s, replies := [], ended := false }
  | act :: rest =>
    match hostAct act s with
    | .next (reply, t) =>
      if reply = .stepped .halted then .next { state := t, replies := [reply], ended := true }
      else
        match hostRun rest t with
        | .next run => .next { run with replies := reply :: run.replies }
        | .fault r => .fault r
        | .refused r => .refused r
    | .fault r => .fault r
    | .refused r => .refused r

end Sys2Proof.Machine
end

