-- ==== Sys2Proof/WellFormed.lean ====
section
/-! DEFINITION. When a string of bytes is the code of exactly one instruction (30_encoding.md R300, R310).
The fields of an Instr are a byte or a word, so the types already keep every operand in the range of its encoding;
what can be ill formed is a byte string, and an instruction is well formed when its own code is. -/

namespace Sys2Proof

/-- The string holds an opcode byte (R300). -/
def hasOpcode (code : List Byte) : Bool := !code.isEmpty

/-- No immediate byte that the opcode asks for is missing (R310). -/
def hasOperands (code : List Byte) : Bool := opcodeLength (code.headD 0) ≤ code.length

/-- No byte follows the instruction's last (R310). -/
def endsAtLast (code : List Byte) : Bool := code.length ≤ opcodeLength (code.headD 0)

/-- The string is the code of exactly one instruction. -/
def wellFormedCode (code : List Byte) : Bool := hasOpcode code && hasOperands code && endsAtLast code

/-- An instruction is well formed when its code is. -/
def Instr.wellFormed (i : Instr) : Bool := wellFormedCode (encode i)

end Sys2Proof
end

