-- ==== Sys2Proof/Safety.lean ====
section
/-! DEFINITION. The terms that the statements use: a safe step, the invariant of a state, what an instruction
keeps (its frame), and what the flag rules say of a result in plain arithmetic. -/

namespace Sys2Proof.Machine

/-! ## Safe steps and the invariant -/

/-- A step is safe when it answers a next state. -/
def SafeStep (s : State) : Prop := ∃ t, step s = .next t

/-- The memory is in its canonical form. -/
def CanonicalMemory (s : State) : Prop := s.mem.wf = true

/-! ## Frames -/

/-- Every general register but those listed, and every byte of memory but those at the listed addresses, reads in `t` as in
`s`; and the parameters are the same. -/
def KeepsData (s t : State) (regs : List Reg8) (stored : List Word) : Prop :=
  (∀ r, r ∉ regs → t.getReg r = s.getReg r) ∧ (∀ a, a ∉ stored → t.readByte a = s.readByte a) ∧ t.params = s.params

/-- The three control bits are the same. -/
def KeepsControl (s t : State) : Prop := t.halted = s.halted ∧ t.inte = s.inte ∧ t.eiDelay = s.eiDelay

/-- What an instruction keeps that may change, besides PC, only the registers and the bytes listed: all else but SP, the flags
and the I/O history, which a statement names one by one. -/
def Frame (s t : State) (regs : List Reg8) (stored : List Word) : Prop := KeepsData s t regs stored ∧ KeepsControl s t

/-- The frame of an instruction that writes no flag, leaves SP, and makes no port access. -/
def PlainFrame (s t : State) (regs : List Reg8) (stored : List Word) : Prop :=
  Frame s t regs stored ∧ t.sp = s.sp ∧ t.flags = s.flags ∧ t.io = s.io

/-- The frame of an ALU instruction: A and the flags apart, everything is kept but PC. -/
def AluFrame (s t : State) : Prop := Frame s t [.a] [] ∧ t.sp = s.sp ∧ t.io = s.io

/-- The registers of a pair: none for SP, which is no general register. -/
def pairRegs (rp : RegPair) : List Reg8 :=
  match rp with
  | .bc => [.b, .c]
  | .de => [.d, .e]
  | .hl => [.h, .l]
  | .sp => []

/-- The registers that a POP of a pair writes. -/
def stackPairRegs (rp : StackPair) : List Reg8 :=
  match rp with
  | .bc => [.b, .c]
  | .de => [.d, .e]
  | .hl => [.h, .l]
  | .psw => [.a]

/-- The register that an 8-bit operand names. -/
def operandRegs (x : Operand8) : List Reg8 :=
  match x with
  | .reg r => [r]
  | .mem => []

/-- The address of an 8-bit operand in memory. -/
def operandStore (x : Operand8) (s : State) : List Word :=
  match x with
  | .reg _ => []
  | .mem => [s.hl]

/-! ## Encodings -/

/-- `code` is what instruction `i` is encoded as, and what a decoder reads as `i` and no further (R302, R324). -/
def CodedAs (i : Instr) (code : List Byte) : Prop := encode i = code ∧ ∀ rest, decode (code ++ rest) = .ok (i, rest)

/-- The twelve undocumented opcodes (R321). -/
def aliasOpcodes : List Byte := [0x08, 0x10, 0x18, 0x20, 0x28, 0x30, 0x38, 0xCB, 0xD9, 0xDD, 0xED, 0xFD]

/-! ## Flag rules in plain arithmetic -/

/-- S, Z and P as they follow from a result byte (R14, R121, R122, R124). -/
def SzpOf (f : Flags) (r : Byte) : Prop :=
  (f.s = true ↔ 128 ≤ r.toNat) ∧ (f.z = true ↔ r = 0) ∧ (f.p = true ↔ ones r % 2 = 0)

/-- The result and flags of an addition with carry-in `c` (R501). -/
def AddLeaves (a b : Byte) (c : Bool) (r : Byte) (f : Flags) : Prop :=
  r.toNat = (a.toNat + b.toNat + c.toNat) % 256 ∧
  (f.cy = true ↔ 255 < a.toNat + b.toNat + c.toNat) ∧
  (f.ac = true ↔ 15 < a.toNat % 16 + b.toNat % 16 + c.toNat) ∧ SzpOf f r

/-- The flags of a subtraction with borrow-in `w` and result `r`, AC under each `AC_SUB_MODE` (R502). -/
def SubLeaves (mode : AcSubMode) (a b : Byte) (w : Bool) (r : Byte) (f : Flags) : Prop :=
  (r.toNat + b.toNat + w.toNat) % 256 = a.toNat ∧
  (f.cy = true ↔ a.toNat < b.toNat + w.toNat) ∧
  (mode = .intel → (f.ac = true ↔ b.toNat % 16 + w.toNat ≤ a.toNat % 16)) ∧
  (mode = .borrow → (f.ac = true ↔ a.toNat % 16 < b.toNat % 16 + w.toNat)) ∧ SzpOf f r

/-- The flags of an AND, AC under each `AC_AND_MODE` (R600). -/
def AndLeaves (mode : AcAndMode) (a b r : Byte) (f : Flags) : Prop :=
  r = a &&& b ∧ f.cy = false ∧
  (mode = .intel → (f.ac = true ↔ a.getLsbD 3 = true ∨ b.getLsbD 3 = true)) ∧ (mode = .clear → f.ac = false) ∧ SzpOf f r

/-- The flags of an XOR or an OR with result `r` (R600). -/
def LogicLeaves (r : Byte) (f : Flags) : Prop := f.cy = false ∧ f.ac = false ∧ SzpOf f r

/-- The correction that DAA adds, in the one-step form that R540 derives: a low and a high part. -/
def daaCorrection (a : Byte) (f : Flags) : Nat :=
  (if f.ac = true ∨ 9 < a.toNat % 16 then 0x06 else 0) +
  (if f.cy = true ∨ 9 < a.toNat / 16 ∨ (9 ≤ a.toNat / 16 ∧ 9 < a.toNat % 16) then 0x60 else 0)

/-! ## Who writes what (10_state.md R112, R127) -/

/-- The five flags by name. -/
inductive FlagName where
  | s | z | ac | p | cy
deriving DecidableEq, Repr

/-- A flag by its name. -/
def Flags.get (f : Flags) (n : FlagName) : Bool :=
  match n with
  | .s => f.s
  | .z => f.z
  | .ac => f.ac
  | .p => f.p
  | .cy => f.cy

/-- The flag a condition reads, and the value it is true for (R305, R700). -/
def condTest (cc : Cond) : FlagName × Bool :=
  match cc with
  | .nz => (.z, false)
  | .z => (.z, true)
  | .nc => (.cy, false)
  | .c => (.cy, true)
  | .po => (.p, false)
  | .pe => (.p, true)
  | .p => (.s, false)
  | .m => (.s, true)

/-- The condition is true of the flags (R700). -/
abbrev CondTrue (cc : Cond) (f : Flags) : Prop := f.get (condTest cc).1 = (condTest cc).2

/-- The flags an instruction writes: the columns of R127 that are not "unchanged". -/
def flagsWritten (i : Form) : List FlagName :=
  match i with
  | .alu _ _ | .aluImm _ _ | .daa => [.s, .z, .ac, .p, .cy]
  | .pop rp => if rp = .psw then [.s, .z, .ac, .p, .cy] else []
  | .inr _ | .dcr _ => [.s, .z, .ac, .p]
  | .dad _ | .rlc | .rrc | .ral | .rar | .stc | .cmc => [.cy]
  | .movRR _ _ | .movRM _ | .movMR _ | .mviR _ _ | .mviM _ | .lxi _ _ | .lda _ | .sta _ => []
  | .lhld _ | .shld _ | .ldax _ | .stax _ | .xchg | .inx _ | .dcx _ | .cma => []
  | .jmp _ | .jcc _ _ | .call _ | .ccc _ _ | .ret | .rcc _ | .rst _ | .pchl => []
  | .push _ | .xthl | .sphl | .inp _ | .out _ | .ei | .di | .hlt | .nop => []

/-- The instructions that may change SP: those of R112, without DAD SP and XTHL, which only read it. -/
def mayChangeSp (i : Form) : Bool :=
  match i with
  | .push _ | .pop _ | .call _ | .ccc _ _ | .ret | .rcc _ | .rst _ | .sphl => true
  | .lxi rp _ | .inx rp | .dcx rp => rp == .sp
  | .movRR _ _ | .movRM _ | .movMR _ | .mviR _ _ | .mviM _ | .lda _ | .sta _ | .lhld _ | .shld _ => false
  | .ldax _ | .stax _ | .xchg | .alu _ _ | .aluImm _ _ | .inr _ | .dcr _ | .dad _ | .daa => false
  | .rlc | .rrc | .ral | .rar | .cma | .cmc | .stc | .jmp _ | .jcc _ _ | .pchl => false
  | .xthl | .inp _ | .out _ | .ei | .di | .hlt | .nop => false

/-- The control transfers: the instructions whose rule may set `pc <- target` (43_branch.md). -/
def transfersControl (i : Form) : Bool :=
  match i with
  | .jmp _ | .jcc _ _ | .call _ | .ccc _ _ | .ret | .rcc _ | .rst _ | .pchl => true
  | .movRR _ _ | .movRM _ | .movMR _ | .mviR _ _ | .mviM _ | .lxi _ _ | .lda _ | .sta _ => false
  | .lhld _ | .shld _ | .ldax _ | .stax _ | .xchg | .alu _ _ | .aluImm _ _ | .inr _ | .dcr _ => false
  | .inx _ | .dcx _ | .dad _ | .daa | .rlc | .rrc | .ral | .rar | .cma | .cmc | .stc => false
  | .push _ | .pop _ | .xthl | .sphl | .inp _ | .out _ | .ei | .di | .hlt | .nop => false

/-- A state with another auxiliary carry. -/
def State.withAc (s : State) (ac : Bool) : State := { s with flags := { s.flags with ac := ac } }

end Sys2Proof.Machine
end

