-- ==== Sys2Proof/Certificates/Slice0/Obligations.lean ====
section
/-! DEFINITION. The statements for the provers, from the spec's numbered rules. Each docstring names the rules it formalises, or
says what it rests on. A statement or a clause that rests on a choice of the model names its log entry. No statement but
`ResetValues` rests on a parameter's default, and none on what a hook answers. -/

open Sys2Proof Sys2Proof.Machine

/-! ## Encoding and decoding (30_encoding.md) -/

/-- Decoding the code of any instruction, whatever follows it, gives that instruction and what follows (R302 to R308, R324). -/
def Obligations.DecodeEncodeRoundTrip : Prop :=
  ∀ (i : Instr) (rest : List Byte), decode (encode i ++ rest) = .ok (i, rest)

/-- A documented opcode and its operand bytes are the code of the instruction they decode to (R302, R321). -/
def Obligations.DocumentedCodeIsUnique : Prop :=
  ∀ op b1 b2 : Byte, op ∉ aliasOpcodes → encode (decodeOp op b1 b2) = [op, b1, b2].take (opcodeLength op)

/-- The twelve duplicate encodings, with the length and the T-states of the instruction each executes as (R321). -/
def Obligations.AliasesDecodeToCanonical : Prop :=
  ∀ (b1 b2 : Byte) (f : Flags),
    (∀ op ∈ ([0x08, 0x10, 0x18, 0x20, 0x28, 0x30, 0x38] : List Byte),
      decodeOp op b1 b2 = .nop ∧ decodeOp 0x00 b1 b2 = .nop ∧ opcodeLength op = 1 ∧ tstates .nop f = 4) ∧
    (decodeOp 0xCB b1 b2 = .jmp (ofBytes b2 b1) ∧ decodeOp 0xC3 b1 b2 = .jmp (ofBytes b2 b1) ∧ opcodeLength 0xCB = 3 ∧
      tstates (.jmp (ofBytes b2 b1)) f = 10) ∧
    (decodeOp 0xD9 b1 b2 = .ret ∧ decodeOp 0xC9 b1 b2 = .ret ∧ opcodeLength 0xD9 = 1 ∧ tstates .ret f = 10) ∧
    (∀ op ∈ ([0xDD, 0xED, 0xFD] : List Byte),
      decodeOp op b1 b2 = .call (ofBytes b2 b1) ∧ decodeOp 0xCD b1 b2 = .call (ofBytes b2 b1) ∧ opcodeLength op = 3 ∧
      tstates (.call (ofBytes b2 b1)) f = 17)

/-- Every opcode byte decodes, whatever follows it, provided its operand bytes are there (R322); the opcode byte alone fixes
the length: the decoder consumes that many bytes, the decoded instruction has that length, and 30 opcodes have length 3, 18
length 2 and 208 length 1 (R310, R311). -/
def Obligations.EveryOpcodeDecodesByItsLength : Prop :=
  (∀ (op b1 b2 : Byte) (rest : List Byte),
    ∃ i, decode (op :: b1 :: b2 :: rest) = .ok (i, (op :: b1 :: b2 :: rest).drop (opcodeLength op)) ∧
      i.length = opcodeLength op) ∧
  (List.range 256).countP (fun n => opcodeLength (BitVec.ofNat 8 n) == 3) = 30 ∧
  (List.range 256).countP (fun n => opcodeLength (BitVec.ofNat 8 n) == 2) = 18 ∧
  (List.range 256).countP (fun n => opcodeLength (BitVec.ofNat 8 n) == 1) = 208

/-- A few words of the opcode map, one or more of each family, with immediates little-endian (R308, R320). -/
def Obligations.SampleWordsDecode : Prop :=
  decode [0b01_000_001] = .ok (.movBC, []) ∧ decode [0b00_111_110, 0x05, 0x00] = .ok (.mviA 0x05, [0x00]) ∧
  decode [0b00_10_0001, 0x34, 0x12] = .ok (.lxiH 0x1234, []) ∧ decode [0b10_010_111] = .ok (.subA, []) ∧
  decode [0b00_01_1001] = .ok (.dadD, []) ∧ decode [0b11_111_110, 0x40] = .ok (.cpi 0x40, []) ∧
  decode [0b11_011_100, 0x00, 0x20] = .ok (.cc 0x2000, []) ∧ decode [0b11_101_111] = .ok (.rst5, []) ∧
  decode [0b11_11_0101] = .ok (.pushPsw, []) ∧ decode [0b11_011_011, 0x10] = .ok (.inp 0x10, []) ∧
  decode [0b01_110_110] = .ok (.hlt, []) ∧ decode [0b00_111_000] = .ok (.nop, []) ∧
  decode [] = .error .noOpcode ∧ decode [0b11_00_1101, 0x34] = .error .missingOperand

/-! ## The step (44_stack_io_machine.md R820 to R823) -/

/-- A step of a running core runs the instruction that the bytes at PC decode to, addresses modulo 65536, and then settles
`ei_delay`: EI_DELAY after an EI, else 0 (R820). -/
def Obligations.StepRunsFetchedInstruction : Prop :=
  ∀ (s t : State) (i : Instr) (rest : List Byte), s.halted = false →
    decode [s.readByte s.pc, s.readByte (s.pc + 1), s.readByte (s.pc + 2)] = .ok (i, rest) → exec i s = .next t →
    step s = .next { t with eiDelay := if i = .ei then t.params.eiDelay else false } ∧
    stepResult s = .ok i (tstates i s.flags)

/-- A halted step changes no state, makes no access and returns Halted, with no T-states (R822). -/
def Obligations.HaltedStepChangesNothing : Prop :=
  ∀ s : State, s.halted = true → step s = .next s ∧ stepAccesses s = [] ∧ stepResult s = .halted

/-- Every instruction and every step answers a next state; there is no fault (R900, R322). -/
def Obligations.EveryStepAnswersNextState : Prop :=
  (∀ (i : Instr) (s : State), ∃ t, exec i s = .next t) ∧ (∀ s : State, SafeStep s) ∧ ∀ _ : Fault, False

/-- The HLT step ends the run: it returns (HLT, 7), the next step returns Halted, and the end state is the state after the HLT
step (R813, R823). -/
def Obligations.HltEndsRun : Prop :=
  ∀ (s : State) (rest : List HostAction), s.halted = false → s.fetch = .hlt →
    ∃ t, step s = .next t ∧ t.halted = true ∧ t.pc = s.pc + 1 ∧
      hostRun (.step :: .step :: rest) s =
        .next { state := t, replies := [.stepped (.ok .hlt 7), .stepped .halted], ended := true }

/-- A halted core with interrupts disabled stays as it is under every sequence of steps and interrupt requests: each step
returns Halted and no request is accepted (R813, R822, R911, 92_eei_decisions.md D24). -/
def Obligations.HaltedForGood : Prop :=
  ∀ (acts : List HostAction) (s : State), s.halted = true → s.inte = false →
    (∀ act ∈ acts, act = .step ∨ ∃ n, act = .interrupt n) →
    hostTrace acts s =
      .next (acts.map (fun act => if act = .step then .stepped .halted else .notAccepted), s)

/-! ## Invariants -/

/-- Every step keeps the canonical form of memory, which is the model's own choice of representation (log entry 8). -/
def Obligations.StepKeepsCanonicalMemory : Prop :=
  ∀ s t : State, CanonicalMemory s → step s = .next t → CanonicalMemory t

/-- The canonical form of memory, which is the model's own choice of representation (log entry 8), holds at reset. -/
def Obligations.ResetMemoryIsCanonical : Prop := CanonicalMemory State.reset

/-- Every sequence of host operations, steps among them, keeps the canonical form of memory and the parameters. Both are the
model's own choices: the form of memory (log entry 8), and the parameters and hooked ports as a field of State that
nothing changes after construction (log entries 2 and 3). -/
def Obligations.RunsKeepMemoryFormAndParameters : Prop :=
  ∀ (acts : List HostAction) (s t : State) (replies : List HostReply), CanonicalMemory s →
    hostTrace acts s = .next (replies, t) → CanonicalMemory t ∧ t.params = s.params

/-! ## Memory and registers (10_state.md, 20_memory.md) -/

/-- Memories in canonical form that read alike at every address are equal: a statement about the model's own choice of
representation alone (log entry 8). -/
def Obligations.CanonicalMemoriesAreTheirBytes : Prop :=
  ∀ m n : Memory, m.wf = true → n.wf = true → (∀ a, m.read a = n.read a) → m = n

/-- A byte write sets one byte; a word write sets two, the low byte at the address and the high byte at the next, modulo
65536; a word read joins them (R204 to R207, R209). -/
def Obligations.ByteAndWordAccesses : Prop :=
  ∀ (s : State) (a : Word),
    (∀ v x, (s.writeByte a v).readByte x = if x = a then v else s.readByte x) ∧
    (∀ v x, (s.writeWord a v).readByte x =
      if x = a then loByte v else if x.toNat = (a.toNat + 1) % 65536 then hiByte v else s.readByte x) ∧
    (∀ v, (s.writeWord a v).readWord a = v) ∧
    (s.readWord a).toNat = (s.readByte (a + 1)).toNat * 256 + (s.readByte a).toNat

/-- A pair is a view of two registers, the first-named one high: a write to the pair is seen in each register, a write to one
register is seen in the pair, and neither changes anything else, PC included (R110, R111). -/
def Obligations.PairsAreViews : Prop :=
  ∀ (s : State) (v : Word) (x : Byte),
    (s.bc.toNat = (s.getReg .b).toNat * 256 + (s.getReg .c).toNat ∧
      (s.setBc v).bc = v ∧ (s.setBc v).getReg .b = hiByte v ∧ (s.setBc v).getReg .c = loByte v ∧
      (s.setReg .b x).bc = ofBytes x (s.getReg .c) ∧ (s.setReg .c x).bc = ofBytes (s.getReg .b) x) ∧
    (s.de.toNat = (s.getReg .d).toNat * 256 + (s.getReg .e).toNat ∧
      (s.setDe v).de = v ∧ (s.setDe v).getReg .d = hiByte v ∧ (s.setDe v).getReg .e = loByte v ∧
      (s.setReg .d x).de = ofBytes x (s.getReg .e) ∧ (s.setReg .e x).de = ofBytes (s.getReg .d) x) ∧
    (s.hl.toNat = (s.getReg .h).toNat * 256 + (s.getReg .l).toNat ∧
      (s.setHl v).hl = v ∧ (s.setHl v).getReg .h = hiByte v ∧ (s.setHl v).getReg .l = loByte v ∧
      (s.setReg .h x).hl = ofBytes x (s.getReg .l) ∧ (s.setReg .l x).hl = ofBytes (s.getReg .h) x) ∧
    (PlainFrame s (s.setBc v) [.b, .c] [] ∧ (s.setBc v).pc = s.pc) ∧
    (PlainFrame s (s.setDe v) [.d, .e] [] ∧ (s.setDe v).pc = s.pc) ∧
    (PlainFrame s (s.setHl v) [.h, .l] [] ∧ (s.setHl v).pc = s.pc) ∧
    ∀ r : Reg8, (s.setReg r x).getReg r = x ∧ PlainFrame s (s.setReg r x) [r] [] ∧ (s.setReg r x).pc = s.pc

/-- The packed flags byte: the layout, the fixed bits 5, 3 and 1, and what unpacking keeps (R15, R120). -/
def Obligations.FlagsByteLayout : Prop :=
  (∀ f : Flags,
    f.pack.toNat = f.s.toNat * 128 + f.z.toNat * 64 + f.ac.toNat * 16 + f.p.toNat * 4 + 2 + f.cy.toNat ∧
    Flags.unpack f.pack = f) ∧
  ∀ b : Byte, (Flags.unpack b).pack = (b &&& 0xD5) ||| 0x02

/-! ## Data transfer (40_data_transfer.md) -/

/-- MOV r1,r2 (R400). -/
def Obligations.MovRegisterToRegister : Prop :=
  ∀ (dst src : Reg8) (s : State),
    CodedAs (movRRInstr dst src) [opcodeOf 0b01 (Operand8.reg dst).code (Operand8.reg src).code] ∧
    (∀ f, tstates (movRRInstr dst src) f = 5) ∧
    ∃ t, exec (movRRInstr dst src) s = .next t ∧ t.getReg dst = s.getReg src ∧ t.pc = s.pc + 1 ∧ PlainFrame s t [dst] []

/-- MOV r,M and MOV M,r: the pointer is HL before the instruction (R401, R402). -/
def Obligations.MovBetweenRegisterAndMemory : Prop :=
  ∀ (r : Reg8) (s : State),
    (CodedAs (movRMInstr r) [opcodeOf 0b01 (Operand8.reg r).code 0b110] ∧ (∀ f, tstates (movRMInstr r) f = 7) ∧
      ∃ t, exec (movRMInstr r) s = .next t ∧ t.getReg r = s.readByte s.hl ∧ t.pc = s.pc + 1 ∧ PlainFrame s t [r] []) ∧
    (CodedAs (movMRInstr r) [opcodeOf 0b01 0b110 (Operand8.reg r).code] ∧ (∀ f, tstates (movMRInstr r) f = 7) ∧
      ∃ t, exec (movMRInstr r) s = .next t ∧ t.readByte s.hl = s.getReg r ∧ t.pc = s.pc + 1 ∧
        PlainFrame s t [] [s.hl])

/-- MVI r,d8 and MVI M,d8 (R403, R404). -/
def Obligations.MoveImmediate : Prop :=
  ∀ (r : Reg8) (v : Byte) (s : State),
    (CodedAs (mviRInstr r v) [opcodeOf 0b00 (Operand8.reg r).code 0b110, v] ∧ (∀ f, tstates (mviRInstr r v) f = 7) ∧
      ∃ t, exec (mviRInstr r v) s = .next t ∧ t.getReg r = v ∧ t.pc = s.pc + 2 ∧ PlainFrame s t [r] []) ∧
    (CodedAs (.mviM v) [0x36, v] ∧ (∀ f, tstates (.mviM v) f = 10) ∧
      ∃ t, exec (.mviM v) s = .next t ∧ t.readByte s.hl = v ∧ t.pc = s.pc + 2 ∧ PlainFrame s t [] [s.hl])

/-- LXI rp,d16, SP among the pairs (R405). -/
def Obligations.LoadPairImmediate : Prop :=
  ∀ (rp : RegPair) (v : Word) (s : State),
    CodedAs (lxiInstr rp v) [opcodeOfPair 0b00 rp.code 0 0b001, loByte v, hiByte v] ∧
    (∀ f, tstates (lxiInstr rp v) f = 10) ∧
    ∃ t, exec (lxiInstr rp v) s = .next t ∧ t.getPair rp = v ∧ t.pc = s.pc + 3 ∧ Frame s t (pairRegs rp) [] ∧
      (rp ≠ .sp → t.sp = s.sp) ∧ t.flags = s.flags ∧ t.io = s.io

/-- LDA a16 and LDAX rp (R406, R410). -/
def Obligations.LoadAccumulator : Prop :=
  ∀ s : State,
    (∀ addr, CodedAs (.lda addr) [0x3A, loByte addr, hiByte addr] ∧ (∀ f, tstates (.lda addr) f = 13) ∧
      ∃ t, exec (.lda addr) s = .next t ∧ t.getReg .a = s.readByte addr ∧ t.pc = s.pc + 3 ∧ PlainFrame s t [.a] []) ∧
    (CodedAs .ldaxB [0x0A] ∧ (∀ f, tstates .ldaxB f = 7) ∧
      ∃ t, exec .ldaxB s = .next t ∧ t.getReg .a = s.readByte s.bc ∧ t.pc = s.pc + 1 ∧ PlainFrame s t [.a] []) ∧
    (CodedAs .ldaxD [0x1A] ∧ (∀ f, tstates .ldaxD f = 7) ∧
      ∃ t, exec .ldaxD s = .next t ∧ t.getReg .a = s.readByte s.de ∧ t.pc = s.pc + 1 ∧ PlainFrame s t [.a] [])

/-- STA a16 and STAX rp (R407, R411). -/
def Obligations.StoreAccumulator : Prop :=
  ∀ s : State,
    (∀ addr, CodedAs (.sta addr) [0x32, loByte addr, hiByte addr] ∧ (∀ f, tstates (.sta addr) f = 13) ∧
      ∃ t, exec (.sta addr) s = .next t ∧ t.readByte addr = s.getReg .a ∧ t.pc = s.pc + 3 ∧ PlainFrame s t [] [addr]) ∧
    (CodedAs .staxB [0x02] ∧ (∀ f, tstates .staxB f = 7) ∧
      ∃ t, exec .staxB s = .next t ∧ t.readByte s.bc = s.getReg .a ∧ t.pc = s.pc + 1 ∧ PlainFrame s t [] [s.bc]) ∧
    (CodedAs .staxD [0x12] ∧ (∀ f, tstates .staxD f = 7) ∧
      ∃ t, exec .staxD s = .next t ∧ t.readByte s.de = s.getReg .a ∧ t.pc = s.pc + 1 ∧ PlainFrame s t [] [s.de])

/-- LHLD a16 and SHLD a16: L at a16, H at a16+1 modulo 65536 (R408, R409). -/
def Obligations.LoadAndStoreHL : Prop :=
  ∀ (addr : Word) (s : State),
    (CodedAs (.lhld addr) [0x2A, loByte addr, hiByte addr] ∧ (∀ f, tstates (.lhld addr) f = 16) ∧
      ∃ t, exec (.lhld addr) s = .next t ∧ t.getReg .l = s.readByte addr ∧ t.getReg .h = s.readByte (addr + 1) ∧
        t.pc = s.pc + 3 ∧ PlainFrame s t [.h, .l] []) ∧
    (CodedAs (.shld addr) [0x22, loByte addr, hiByte addr] ∧ (∀ f, tstates (.shld addr) f = 16) ∧
      ∃ t, exec (.shld addr) s = .next t ∧ t.readByte addr = s.getReg .l ∧ t.readByte (addr + 1) = s.getReg .h ∧
        t.pc = s.pc + 3 ∧ PlainFrame s t [] [addr, addr + 1])

/-- XCHG, and that executing it twice restores both pairs (R412). -/
def Obligations.ExchangeRegisterPairs : Prop :=
  CodedAs .xchg [0xEB] ∧ (∀ f, tstates .xchg f = 4) ∧
  ∀ s : State, ∃ t, exec .xchg s = .next t ∧ t.hl = s.de ∧ t.de = s.hl ∧ t.pc = s.pc + 1 ∧
    PlainFrame s t [.d, .e, .h, .l] [] ∧ ∃ u, exec .xchg t = .next u ∧ u.hl = s.hl ∧ u.de = s.de

/-! ## Arithmetic (41_arithmetic.md) -/

/-- ADD, ADC, ADI and ACI, on every register, M and every immediate (R501, R510 to R515). -/
def Obligations.AddInstructions : Prop :=
  ∀ s : State,
    (∀ x : Operand8,
      (CodedAs (aluInstr .add x) [opcodeOf 0b10 0b000 x.code] ∧
        (∀ f, tstates (aluInstr .add x) f = if x = .mem then 7 else 4) ∧
        ∃ t, exec (aluInstr .add x) s = .next t ∧ AddLeaves (s.getReg .a) (s.src8 x) false (t.getReg .a) t.flags ∧
          t.pc = s.pc + 1 ∧ AluFrame s t) ∧
      (CodedAs (aluInstr .adc x) [opcodeOf 0b10 0b001 x.code] ∧
        (∀ f, tstates (aluInstr .adc x) f = if x = .mem then 7 else 4) ∧
        ∃ t, exec (aluInstr .adc x) s = .next t ∧
          AddLeaves (s.getReg .a) (s.src8 x) s.flags.cy (t.getReg .a) t.flags ∧ t.pc = s.pc + 1 ∧ AluFrame s t)) ∧
    ∀ v : Byte,
      (CodedAs (.adi v) [0xC6, v] ∧ (∀ f, tstates (.adi v) f = 7) ∧
        ∃ t, exec (.adi v) s = .next t ∧ AddLeaves (s.getReg .a) v false (t.getReg .a) t.flags ∧ t.pc = s.pc + 2 ∧
          AluFrame s t) ∧
      (CodedAs (.aci v) [0xCE, v] ∧ (∀ f, tstates (.aci v) f = 7) ∧
        ∃ t, exec (.aci v) s = .next t ∧ AddLeaves (s.getReg .a) v s.flags.cy (t.getReg .a) t.flags ∧
          t.pc = s.pc + 2 ∧ AluFrame s t)

/-- SUB, SBB, SUI and SBI, under both values of AC_SUB_MODE (R502, R516 to R521). -/
def Obligations.SubtractInstructions : Prop :=
  ∀ s : State,
    (∀ x : Operand8,
      (CodedAs (aluInstr .sub x) [opcodeOf 0b10 0b010 x.code] ∧
        (∀ f, tstates (aluInstr .sub x) f = if x = .mem then 7 else 4) ∧
        ∃ t, exec (aluInstr .sub x) s = .next t ∧
          SubLeaves s.params.acSub (s.getReg .a) (s.src8 x) false (t.getReg .a) t.flags ∧ t.pc = s.pc + 1 ∧
          AluFrame s t) ∧
      (CodedAs (aluInstr .sbb x) [opcodeOf 0b10 0b011 x.code] ∧
        (∀ f, tstates (aluInstr .sbb x) f = if x = .mem then 7 else 4) ∧
        ∃ t, exec (aluInstr .sbb x) s = .next t ∧
          SubLeaves s.params.acSub (s.getReg .a) (s.src8 x) s.flags.cy (t.getReg .a) t.flags ∧ t.pc = s.pc + 1 ∧
          AluFrame s t)) ∧
    ∀ v : Byte,
      (CodedAs (.sui v) [0xD6, v] ∧ (∀ f, tstates (.sui v) f = 7) ∧
        ∃ t, exec (.sui v) s = .next t ∧ SubLeaves s.params.acSub (s.getReg .a) v false (t.getReg .a) t.flags ∧
          t.pc = s.pc + 2 ∧ AluFrame s t) ∧
      (CodedAs (.sbi v) [0xDE, v] ∧ (∀ f, tstates (.sbi v) f = 7) ∧
        ∃ t, exec (.sbi v) s = .next t ∧ SubLeaves s.params.acSub (s.getReg .a) v s.flags.cy (t.getReg .a) t.flags ∧
          t.pc = s.pc + 2 ∧ AluFrame s t)

/-- INR on every register and on M: CY is unchanged (R503, R522, R523). -/
def Obligations.IncrementOperand : Prop :=
  ∀ (x : Operand8) (s : State),
    CodedAs (inrInstr x) [opcodeOf 0b00 x.code 0b100] ∧ (∀ f, tstates (inrInstr x) f = if x = .mem then 10 else 5) ∧
    ∃ t, exec (inrInstr x) s = .next t ∧ (t.src8 x).toNat = ((s.src8 x).toNat + 1) % 256 ∧
      (t.flags.ac = true ↔ (s.src8 x).toNat % 16 = 15) ∧ SzpOf t.flags (t.src8 x) ∧ t.flags.cy = s.flags.cy ∧
      t.pc = s.pc + 1 ∧ Frame s t (operandRegs x) (operandStore x s) ∧ t.sp = s.sp ∧ t.io = s.io

/-- DCR on every register and on M, under both values of AC_SUB_MODE: CY is unchanged (R503, R524, R525). -/
def Obligations.DecrementOperand : Prop :=
  ∀ (x : Operand8) (s : State),
    CodedAs (dcrInstr x) [opcodeOf 0b00 x.code 0b101] ∧ (∀ f, tstates (dcrInstr x) f = if x = .mem then 10 else 5) ∧
    ∃ t, exec (dcrInstr x) s = .next t ∧ ((t.src8 x).toNat + 1) % 256 = (s.src8 x).toNat ∧
      (s.params.acSub = .intel → (t.flags.ac = true ↔ (s.src8 x).toNat % 16 ≠ 0)) ∧
      (s.params.acSub = .borrow → (t.flags.ac = true ↔ (s.src8 x).toNat % 16 = 0)) ∧
      SzpOf t.flags (t.src8 x) ∧ t.flags.cy = s.flags.cy ∧
      t.pc = s.pc + 1 ∧ Frame s t (operandRegs x) (operandStore x s) ∧ t.sp = s.sp ∧ t.io = s.io

/-- INX rp and DCX rp: they wrap modulo 65536 and write no flag (R530, R531). -/
def Obligations.IncrementAndDecrementPair : Prop :=
  ∀ (rp : RegPair) (s : State),
    (CodedAs (inxInstr rp) [opcodeOfPair 0b00 rp.code 0 0b011] ∧ (∀ f, tstates (inxInstr rp) f = 5) ∧
      ∃ t, exec (inxInstr rp) s = .next t ∧ (t.getPair rp).toNat = ((s.getPair rp).toNat + 1) % 65536 ∧
        t.pc = s.pc + 1 ∧ Frame s t (pairRegs rp) [] ∧ (rp ≠ .sp → t.sp = s.sp) ∧ t.flags = s.flags ∧ t.io = s.io) ∧
    (CodedAs (dcxInstr rp) [opcodeOfPair 0b00 rp.code 1 0b011] ∧ (∀ f, tstates (dcxInstr rp) f = 5) ∧
      ∃ t, exec (dcxInstr rp) s = .next t ∧ ((t.getPair rp).toNat + 1) % 65536 = (s.getPair rp).toNat ∧
        t.pc = s.pc + 1 ∧ Frame s t (pairRegs rp) [] ∧ (rp ≠ .sp → t.sp = s.sp) ∧ t.flags = s.flags ∧ t.io = s.io)

/-- DAD rp: CY is the carry out of bit 15, and the only flag written (R532). -/
def Obligations.AddPairToHL : Prop :=
  ∀ (rp : RegPair) (s : State),
    CodedAs (dadInstr rp) [opcodeOfPair 0b00 rp.code 1 0b001] ∧ (∀ f, tstates (dadInstr rp) f = 10) ∧
    ∃ t, exec (dadInstr rp) s = .next t ∧ t.hl.toNat = (s.hl.toNat + (s.getPair rp).toNat) % 65536 ∧
      (t.flags.cy = true ↔ 65535 < s.hl.toNat + (s.getPair rp).toNat) ∧ t.flags.s = s.flags.s ∧
      t.flags.z = s.flags.z ∧ t.flags.ac = s.flags.ac ∧ t.flags.p = s.flags.p ∧ t.pc = s.pc + 1 ∧
      Frame s t [.h, .l] [] ∧ t.sp = s.sp ∧ t.io = s.io

/-- DAA, in the one-step form that R540 derives from its two steps (R540). -/
def Obligations.DecimalAdjust : Prop :=
  CodedAs .daa [0x27] ∧ (∀ f, tstates .daa f = 4) ∧
  ∀ s : State, ∃ t, exec .daa s = .next t ∧
    (t.getReg .a).toNat = ((s.getReg .a).toNat + daaCorrection (s.getReg .a) s.flags) % 256 ∧
    (t.flags.ac = true ↔ 9 < (s.getReg .a).toNat % 16) ∧
    (t.flags.cy = true ↔ 0x60 ≤ daaCorrection (s.getReg .a) s.flags) ∧ SzpOf t.flags (t.getReg .a) ∧
    t.pc = s.pc + 1 ∧ AluFrame s t

/-! ## Logical, compare, rotate and flag instructions (42_logical.md) -/

/-- ANA and ANI, under both values of AC_AND_MODE (R600, R610 to R612). -/
def Obligations.AndInstructions : Prop :=
  ∀ s : State,
    (∀ x : Operand8, CodedAs (aluInstr .ana x) [opcodeOf 0b10 0b100 x.code] ∧
      (∀ f, tstates (aluInstr .ana x) f = if x = .mem then 7 else 4) ∧
      ∃ t, exec (aluInstr .ana x) s = .next t ∧
        AndLeaves s.params.acAnd (s.getReg .a) (s.src8 x) (t.getReg .a) t.flags ∧ t.pc = s.pc + 1 ∧ AluFrame s t) ∧
    ∀ v : Byte, CodedAs (.ani v) [0xE6, v] ∧ (∀ f, tstates (.ani v) f = 7) ∧
      ∃ t, exec (.ani v) s = .next t ∧ AndLeaves s.params.acAnd (s.getReg .a) v (t.getReg .a) t.flags ∧
        t.pc = s.pc + 2 ∧ AluFrame s t

/-- XRA, XRI, ORA and ORI: CY and AC are cleared (R600, R613 to R618). -/
def Obligations.XorAndOrInstructions : Prop :=
  ∀ s : State,
    (∀ x : Operand8,
      (CodedAs (aluInstr .xra x) [opcodeOf 0b10 0b101 x.code] ∧
        (∀ f, tstates (aluInstr .xra x) f = if x = .mem then 7 else 4) ∧
        ∃ t, exec (aluInstr .xra x) s = .next t ∧ t.getReg .a = s.getReg .a ^^^ s.src8 x ∧
          LogicLeaves (t.getReg .a) t.flags ∧ t.pc = s.pc + 1 ∧ AluFrame s t) ∧
      (CodedAs (aluInstr .ora x) [opcodeOf 0b10 0b110 x.code] ∧
        (∀ f, tstates (aluInstr .ora x) f = if x = .mem then 7 else 4) ∧
        ∃ t, exec (aluInstr .ora x) s = .next t ∧ t.getReg .a = s.getReg .a ||| s.src8 x ∧
          LogicLeaves (t.getReg .a) t.flags ∧ t.pc = s.pc + 1 ∧ AluFrame s t)) ∧
    ∀ v : Byte,
      (CodedAs (.xri v) [0xEE, v] ∧ (∀ f, tstates (.xri v) f = 7) ∧
        ∃ t, exec (.xri v) s = .next t ∧ t.getReg .a = s.getReg .a ^^^ v ∧ LogicLeaves (t.getReg .a) t.flags ∧
          t.pc = s.pc + 2 ∧ AluFrame s t) ∧
      (CodedAs (.ori v) [0xF6, v] ∧ (∀ f, tstates (.ori v) f = 7) ∧
        ∃ t, exec (.ori v) s = .next t ∧ t.getReg .a = s.getReg .a ||| v ∧ LogicLeaves (t.getReg .a) t.flags ∧
          t.pc = s.pc + 2 ∧ AluFrame s t)

/-- CMP and CPI: the flags of a subtraction; A is unchanged; CY is the unsigned comparison and Z equality (R601, R619 to R621). -/
def Obligations.CompareInstructions : Prop :=
  ∀ s : State,
    (∀ x : Operand8, CodedAs (aluInstr .cmp x) [opcodeOf 0b10 0b111 x.code] ∧
      (∀ f, tstates (aluInstr .cmp x) f = if x = .mem then 7 else 4) ∧
      ∃ t, exec (aluInstr .cmp x) s = .next t ∧
        (∃ r, SubLeaves s.params.acSub (s.getReg .a) (s.src8 x) false r t.flags) ∧
        (t.flags.cy = true ↔ (s.getReg .a).toNat < (s.src8 x).toNat) ∧
        (t.flags.z = true ↔ s.getReg .a = s.src8 x) ∧
        t.pc = s.pc + 1 ∧ Frame s t [] [] ∧ t.sp = s.sp ∧ t.io = s.io) ∧
    ∀ v : Byte, CodedAs (.cpi v) [0xFE, v] ∧ (∀ f, tstates (.cpi v) f = 7) ∧
      ∃ t, exec (.cpi v) s = .next t ∧ (∃ r, SubLeaves s.params.acSub (s.getReg .a) v false r t.flags) ∧
        (t.flags.cy = true ↔ (s.getReg .a).toNat < v.toNat) ∧ (t.flags.z = true ↔ s.getReg .a = v) ∧
        t.pc = s.pc + 2 ∧ Frame s t [] [] ∧ t.sp = s.sp ∧ t.io = s.io

/-- RLC, RRC, RAL and RAR: A as a number, CY the bit shifted out, no other flag written (R602, R630 to R633). -/
def Obligations.RotateInstructions : Prop :=
  ∀ s : State,
    (CodedAs .rlc [0x07] ∧ (∀ f, tstates .rlc f = 4) ∧
      ∃ t, exec .rlc s = .next t ∧
        (t.getReg .a).toNat = ((s.getReg .a).toNat * 2 + (s.getReg .a).toNat / 128) % 256 ∧
        t.flags = { s.flags with cy := (s.getReg .a).getLsbD 7 } ∧ t.pc = s.pc + 1 ∧ AluFrame s t) ∧
    (CodedAs .rrc [0x0F] ∧ (∀ f, tstates .rrc f = 4) ∧
      ∃ t, exec .rrc s = .next t ∧
        (t.getReg .a).toNat = (s.getReg .a).toNat / 2 + (s.getReg .a).toNat % 2 * 128 ∧
        t.flags = { s.flags with cy := (s.getReg .a).getLsbD 0 } ∧ t.pc = s.pc + 1 ∧ AluFrame s t) ∧
    (CodedAs .ral [0x17] ∧ (∀ f, tstates .ral f = 4) ∧
      ∃ t, exec .ral s = .next t ∧
        (t.getReg .a).toNat = ((s.getReg .a).toNat * 2 + s.flags.cy.toNat) % 256 ∧
        t.flags = { s.flags with cy := (s.getReg .a).getLsbD 7 } ∧ t.pc = s.pc + 1 ∧ AluFrame s t) ∧
    (CodedAs .rar [0x1F] ∧ (∀ f, tstates .rar f = 4) ∧
      ∃ t, exec .rar s = .next t ∧
        (t.getReg .a).toNat = (s.getReg .a).toNat / 2 + s.flags.cy.toNat * 128 ∧
        t.flags = { s.flags with cy := (s.getReg .a).getLsbD 0 } ∧ t.pc = s.pc + 1 ∧ AluFrame s t)

/-- CMA, CMC and STC (R640 to R642). -/
def Obligations.ComplementAndCarryInstructions : Prop :=
  ∀ s : State,
    (CodedAs .cma [0x2F] ∧ (∀ f, tstates .cma f = 4) ∧
      ∃ t, exec .cma s = .next t ∧ (t.getReg .a).toNat = 255 - (s.getReg .a).toNat ∧ t.pc = s.pc + 1 ∧
        PlainFrame s t [.a] []) ∧
    (CodedAs .cmc [0x3F] ∧ (∀ f, tstates .cmc f = 4) ∧
      ∃ t, exec .cmc s = .next t ∧ t.flags = { s.flags with cy := !s.flags.cy } ∧ t.pc = s.pc + 1 ∧
        Frame s t [] [] ∧ t.sp = s.sp ∧ t.io = s.io) ∧
    (CodedAs .stc [0x37] ∧ (∀ f, tstates .stc f = 4) ∧
      ∃ t, exec .stc s = .next t ∧ t.flags = { s.flags with cy := true } ∧ t.pc = s.pc + 1 ∧
        Frame s t [] [] ∧ t.sp = s.sp ∧ t.io = s.io)

/-! ## Branch, call, return and restart (43_branch.md) -/

/-- JMP a16 and Jcc a16, taken and not taken, each 10 T-states; the alias of JMP (R700 to R702). -/
def Obligations.JumpInstructions : Prop :=
  ∀ (addr : Word) (s : State),
    (CodedAs (.jmp addr) [0xC3, loByte addr, hiByte addr] ∧ decodeOp 0xCB (loByte addr) (hiByte addr) = .jmp addr ∧
      (∀ f, tstates (.jmp addr) f = 10) ∧
      ∃ t, exec (.jmp addr) s = .next t ∧ t.pc = addr ∧ PlainFrame s t [] []) ∧
    ∀ cc : Cond, CodedAs (jccInstr cc addr) [opcodeOf 0b11 cc.code 0b010, loByte addr, hiByte addr] ∧
      (∀ f, tstates (jccInstr cc addr) f = 10) ∧
      ∃ t, exec (jccInstr cc addr) s = .next t ∧ t.pc = (if CondTrue cc s.flags then addr else s.pc + 3) ∧
        PlainFrame s t [] []

/-- CALL a16 and Ccc a16: the return address is the address after the call; not taken, neither SP nor memory changes, and no
memory is accessed; the aliases of CALL (R700, R703, R704). -/
def Obligations.CallInstructions : Prop :=
  ∀ (addr : Word) (s : State),
    (CodedAs (.call addr) [0xCD, loByte addr, hiByte addr] ∧
      (∀ op ∈ ([0xDD, 0xED, 0xFD] : List Byte), decodeOp op (loByte addr) (hiByte addr) = .call addr) ∧
      (∀ f, tstates (.call addr) f = 17) ∧
      ∃ t, exec (.call addr) s = .next t ∧ t.pc = addr ∧ t.sp = s.sp - 2 ∧
        t.readByte (s.sp - 1) = hiByte (s.pc + 3) ∧ t.readByte (s.sp - 2) = loByte (s.pc + 3) ∧
        Frame s t [] [s.sp - 1, s.sp - 2] ∧ t.flags = s.flags ∧ t.io = s.io) ∧
    ∀ cc : Cond, CodedAs (cccInstr cc addr) [opcodeOf 0b11 cc.code 0b100, loByte addr, hiByte addr] ∧
      (∀ f, tstates (cccInstr cc addr) f = if CondTrue cc f then 17 else 11) ∧
      (CondTrue cc s.flags →
        ∃ t, exec (cccInstr cc addr) s = .next t ∧ t.pc = addr ∧ t.sp = s.sp - 2 ∧
          t.readByte (s.sp - 1) = hiByte (s.pc + 3) ∧ t.readByte (s.sp - 2) = loByte (s.pc + 3) ∧
          Frame s t [] [s.sp - 1, s.sp - 2] ∧ t.flags = s.flags ∧ t.io = s.io) ∧
      (¬ CondTrue cc s.flags →
        dataAccesses (cccInstr cc addr) s = [] ∧
        ∃ t, exec (cccInstr cc addr) s = .next t ∧ t.pc = s.pc + 3 ∧ PlainFrame s t [] [])

/-- RET and Rcc: low byte from SP, high byte from SP+1 modulo 65536; not taken, SP is unchanged and no memory is read; the
alias of RET (R700, R705, R706). -/
def Obligations.ReturnInstructions : Prop :=
  ∀ s : State,
    (CodedAs .ret [0xC9] ∧ decodeOp 0xD9 0 0 = .ret ∧ (∀ f, tstates .ret f = 10) ∧
      ∃ t, exec .ret s = .next t ∧ t.pc = ofBytes (s.readByte (s.sp + 1)) (s.readByte s.sp) ∧ t.sp = s.sp + 2 ∧
        Frame s t [] [] ∧ t.flags = s.flags ∧ t.io = s.io) ∧
    ∀ cc : Cond, CodedAs (rccInstr cc) [opcodeOf 0b11 cc.code 0b000] ∧
      (∀ f, tstates (rccInstr cc) f = if CondTrue cc f then 11 else 5) ∧
      (CondTrue cc s.flags →
        ∃ t, exec (rccInstr cc) s = .next t ∧ t.pc = ofBytes (s.readByte (s.sp + 1)) (s.readByte s.sp) ∧
          t.sp = s.sp + 2 ∧ Frame s t [] [] ∧ t.flags = s.flags ∧ t.io = s.io) ∧
      (¬ CondTrue cc s.flags →
        dataAccesses (rccInstr cc) s = [] ∧
        ∃ t, exec (rccInstr cc) s = .next t ∧ t.pc = s.pc + 1 ∧ PlainFrame s t [] [])

/-- RST n: a call of the vector 8*n; INTE is not changed (R707). -/
def Obligations.RestartInstruction : Prop :=
  ∀ (n : Fin 8) (s : State),
    CodedAs (rstInstr n) [BitVec.ofNat 8 (0xC7 + 8 * n.val)] ∧ (∀ f, tstates (rstInstr n) f = 11) ∧
    ∃ t, exec (rstInstr n) s = .next t ∧ t.pc.toNat = 8 * n.val ∧ t.sp = s.sp - 2 ∧
      t.readByte (s.sp - 1) = hiByte (s.pc + 1) ∧ t.readByte (s.sp - 2) = loByte (s.pc + 1) ∧
      Frame s t [] [s.sp - 1, s.sp - 2] ∧ t.flags = s.flags ∧ t.io = s.io

/-- PCHL, which makes no stack access, and SPHL: HL is unchanged (R708, R808). -/
def Obligations.MoveHLToPcOrSp : Prop :=
  ∀ s : State,
    (CodedAs .pchl [0xE9] ∧ (∀ f, tstates .pchl f = 5) ∧ dataAccesses .pchl s = [] ∧
      ∃ t, exec .pchl s = .next t ∧ t.pc = s.hl ∧ PlainFrame s t [] []) ∧
    (CodedAs .sphl [0xF9] ∧ (∀ f, tstates .sphl f = 5) ∧
      ∃ t, exec .sphl s = .next t ∧ t.sp = s.hl ∧ t.pc = s.pc + 1 ∧ Frame s t [] [] ∧ t.flags = s.flags ∧ t.io = s.io)

/-! ## Stack, I/O and machine control (44_stack_io_machine.md) -/

/-- PUSH rp and PUSH PSW: the high byte at SP-1, the low byte at SP-2; of PSW, A and the packed flags (R801, R803, R804). -/
def Obligations.PushInstructions : Prop :=
  ∀ (rp : StackPair) (s : State),
    CodedAs (pushInstr rp) [opcodeOfPair 0b11 rp.code 0 0b101] ∧ (∀ f, tstates (pushInstr rp) f = 11) ∧
    ∃ t, exec (pushInstr rp) s = .next t ∧ t.sp = s.sp - 2 ∧ t.readWord t.sp = s.getStackPair rp ∧
      t.readByte (s.sp - 1) = hiByte (s.getStackPair rp) ∧ t.readByte (s.sp - 2) = loByte (s.getStackPair rp) ∧
      (rp = .psw → t.readByte (s.sp - 1) = s.getReg .a ∧ t.readByte (s.sp - 2) = s.flags.pack) ∧
      t.pc = s.pc + 1 ∧ Frame s t [] [s.sp - 1, s.sp - 2] ∧ t.flags = s.flags ∧ t.io = s.io

/-- POP rp and POP PSW: the flags come from bits 7, 6, 4, 2 and 0 of the popped low byte (R802, R805, R806). -/
def Obligations.PopInstructions : Prop :=
  ∀ (rp : StackPair) (s : State),
    CodedAs (popInstr rp) [opcodeOfPair 0b11 rp.code 0 0b001] ∧ (∀ f, tstates (popInstr rp) f = 10) ∧
    ∃ t, exec (popInstr rp) s = .next t ∧ t.sp = s.sp + 2 ∧
      (rp ≠ .psw → t.getStackPair rp = ofBytes (s.readByte (s.sp + 1)) (s.readByte s.sp) ∧ t.flags = s.flags) ∧
      (rp = .psw → t.getReg .a = s.readByte (s.sp + 1) ∧ t.flags.s = (s.readByte s.sp).getLsbD 7 ∧
        t.flags.z = (s.readByte s.sp).getLsbD 6 ∧ t.flags.ac = (s.readByte s.sp).getLsbD 4 ∧
        t.flags.p = (s.readByte s.sp).getLsbD 2 ∧ t.flags.cy = (s.readByte s.sp).getLsbD 0) ∧
      t.pc = s.pc + 1 ∧ Frame s t (stackPairRegs rp) [] ∧ t.io = s.io

/-- PUSH then POP, into the same or a different pair, reproduces the value and restores SP, for every SP; through PSW the
fixed bits of the flags byte are forced (R801 to R806). -/
def Obligations.StackRoundTrip : Prop :=
  ∀ (rp rp' : StackPair) (s t u : State), exec (pushInstr rp) s = .next t → exec (popInstr rp') t = .next u →
    u.sp = s.sp ∧ (rp' ≠ .psw → u.getStackPair rp' = s.getStackPair rp) ∧
    (rp' = .psw → u.psw = ofBytes (hiByte (s.getStackPair rp)) ((loByte (s.getStackPair rp) &&& 0xD5) ||| 0x02))

/-- XTHL: SP is unchanged, and SP+1 is taken modulo 65536 (R807). -/
def Obligations.ExchangeStackTopWithHL : Prop :=
  CodedAs .xthl [0xE3] ∧ (∀ f, tstates .xthl f = 18) ∧
  ∀ s : State, ∃ t, exec .xthl s = .next t ∧ t.getReg .l = s.readByte s.sp ∧ t.getReg .h = s.readByte (s.sp + 1) ∧
    t.readByte s.sp = s.getReg .l ∧ t.readByte (s.sp + 1) = s.getReg .h ∧ t.pc = s.pc + 1 ∧
    PlainFrame s t [.h, .l] [s.sp, s.sp + 1]

/-- IN p8: A gets the byte the port gives, 0 unless the host has a hook on it, and the event is recorded; OUT p8 records the byte
A and changes nothing else but PC (R230, R231, R809, R810). That the hooked ports are a list of the parameters is the
model's choice (log entry 3). -/
def Obligations.PortInstructions : Prop :=
  ∀ (port : Byte) (s : State),
    (CodedAs (.inp port) [0xDB, port] ∧ (∀ f, tstates (.inp port) f = 10) ∧
      ∃ t, exec (.inp port) s = .next t ∧
        t.getReg .a = (if port ∈ s.params.inHooks then Config.portIn port s.io else 0) ∧
        t.io = s.io ++ [.portIn port (t.getReg .a)] ∧ t.pc = s.pc + 2 ∧ Frame s t [.a] [] ∧ t.sp = s.sp ∧
        t.flags = s.flags) ∧
    (CodedAs (.out port) [0xD3, port] ∧ (∀ f, tstates (.out port) f = 10) ∧
      ∃ t, exec (.out port) s = .next t ∧ t.io = s.io ++ [.portOut port (s.getReg .a)] ∧ t.pc = s.pc + 2 ∧
        Frame s t [] [] ∧ t.sp = s.sp ∧ t.flags = s.flags)

/-- EI and DI (R811, R812). -/
def Obligations.InterruptEnableInstructions : Prop :=
  ∀ s : State,
    (CodedAs .ei [0xFB] ∧ (∀ f, tstates .ei f = 4) ∧
      ∃ t, exec .ei s = .next t ∧ t.inte = true ∧ t.eiDelay = s.params.eiDelay ∧ t.halted = s.halted ∧
        t.pc = s.pc + 1 ∧ KeepsData s t [] [] ∧ t.sp = s.sp ∧ t.flags = s.flags ∧ t.io = s.io) ∧
    (CodedAs .di [0xF3] ∧ (∀ f, tstates .di f = 4) ∧
      ∃ t, exec .di s = .next t ∧ t.inte = false ∧ t.eiDelay = s.eiDelay ∧ t.halted = s.halted ∧
        t.pc = s.pc + 1 ∧ KeepsData s t [] [] ∧ t.sp = s.sp ∧ t.flags = s.flags ∧ t.io = s.io ∧ t.canAccept = false)

/-- HLT and NOP, and the aliases of NOP (R813, R814). -/
def Obligations.HaltAndNoOperation : Prop :=
  ∀ s : State,
    (CodedAs .hlt [0x76] ∧ (∀ f, tstates .hlt f = 7) ∧
      ∃ t, exec .hlt s = .next t ∧ t.halted = true ∧ t.inte = s.inte ∧ t.eiDelay = s.eiDelay ∧ t.pc = s.pc + 1 ∧
        KeepsData s t [] [] ∧ t.sp = s.sp ∧ t.flags = s.flags ∧ t.io = s.io) ∧
    (CodedAs .nop [0x00] ∧ (∀ f, tstates .nop f = 4) ∧
      (∀ op ∈ ([0x08, 0x10, 0x18, 0x20, 0x28, 0x30, 0x38] : List Byte), decodeOp op 0 0 = .nop) ∧
      ∃ t, exec .nop s = .next t ∧ t.pc = s.pc + 1 ∧ PlainFrame s t [] [])

/-! ## Interrupts (60_exceptions.md) -/

/-- A request is accepted exactly when `inte = 1 and ei_delay = 0`, halted or not; otherwise no state changes (R911).
Acceptance: interrupts off, running, PC pushed, PC at 8*n, all else kept; a second request at the same boundary is not accepted
(R912, R913). -/
def Obligations.InterruptRequest : Prop :=
  ∀ (n m : Fin 8) (s : State),
    (¬ (s.inte = true ∧ s.eiDelay = false) → hostAct (.interrupt n) s = .next (.notAccepted, s)) ∧
    (s.inte = true ∧ s.eiDelay = false →
      ∃ t, hostAct (.interrupt n) s = .next (.accepted (rstInstr n) 11, t) ∧ t.inte = false ∧ t.halted = false ∧
        t.eiDelay = false ∧ t.sp = s.sp - 2 ∧ t.readByte (s.sp - 1) = hiByte s.pc ∧
        t.readByte (s.sp - 2) = loByte s.pc ∧ t.pc.toNat = 8 * n.val ∧ KeepsData s t [] [s.sp - 1, s.sp - 2] ∧
        t.flags = s.flags ∧ t.io = s.io ∧ hostAct (.interrupt m) t = .next (.notAccepted, t))

/-- After the EI step interrupts are enabled: with EI_DELAY no request is accepted at once, without it one is; and after one
more step that executes neither EI nor DI (HLT and any other instruction do), one is accepted, after an EI again by
EI_DELAY, after a DI none (R811, R812, R1032). -/
def Obligations.EiDelaysOneInstruction : Prop :=
  ∀ s t u : State, s.halted = false → s.fetch = .ei → step s = .next t → step t = .next u →
    t.inte = true ∧ t.canAccept = !s.params.eiDelay ∧ (t.fetch = .ei → u.canAccept = !s.params.eiDelay) ∧
    (t.fetch = .di → u.canAccept = false) ∧ (t.fetch ≠ .ei → t.fetch ≠ .di → u.canAccept = true)

/-! ## Construction and reset (20_memory.md R240, R241; 70_reset_and_hazards.md) -/

/-- The values after reset: those of R140, and for SP the model's own default 0 of the open parameter SP_RESET (log entry 1),
with nothing listed in memory. -/
def Obligations.ResetValues : Prop :=
  State.reset.pc = 0 ∧ (∀ r, State.reset.getReg r = 0) ∧ State.reset.flags.pack = 0x02 ∧ State.reset.sp = 0 ∧
  State.reset.halted = false ∧ State.reset.inte = false ∧ State.reset.eiDelay = false ∧ State.reset.io = [] ∧
  ∀ a, State.reset.readByte a = 0

/-- Construction, for every choice of the parameters. The bytes of readable images are one after another (R240). Construction
fails with ImageUnreadable when an image cannot be read, whatever the sizes (R241; that this is checked before the size is
the model's reading, log entry 10). Otherwise it fails with AddressSpaceOverflow when the images do not fit (R241), and
else makes the state of R140 around memory that holds byte j of the images at offset + j and 0 elsewhere (R240, R1000).
That the made memory is in canonical form is a clause about the model's own representation (log entry 8), and that the
parameters are a field of State is its choice too (log entry 2). -/
def Obligations.ConstructionLoadsImages : Prop :=
  (∀ datas : List (List Byte), imageBytes (datas.map .bytes) = some datas.flatten) ∧
  ∀ (p : Params) (images : List Image) (offset : Word),
    (.unreadable ∈ images → construct p images offset = .error .imageUnreadable) ∧
    ∀ data : List Byte, imageBytes images = some data →
      (65536 < offset.toNat + data.length → construct p images offset = .error .addressSpaceOverflow) ∧
      (offset.toNat + data.length ≤ 65536 →
        ∃ s, construct p images offset = .ok s ∧ CanonicalMemory s ∧
          (∀ (j : Nat) (h : j < data.length), s.readByte (BitVec.ofNat 16 (offset.toNat + j)) = data[j]) ∧
          (∀ a : Word, a.toNat < offset.toNat ∨ offset.toNat + data.length ≤ a.toNat → s.readByte a = 0) ∧
          s.pc = 0 ∧ (∀ r, s.getReg r = 0) ∧ s.flags.pack = 0x02 ∧ s.sp = p.spReset ∧ s.halted = false ∧
          s.inte = false ∧ s.eiDelay = false ∧ s.io = [] ∧ s.params = p)

/-- The host's reset: every register, flag and control bit at its value of R140; memory, the hooks and the I/O history
unchanged (R1002). -/
def Obligations.HostResetKeepsMemory : Prop :=
  ∀ s : State, ∃ t, hostAct .reset s = .next (.done, t) ∧ t.pc = 0 ∧ (∀ r, t.getReg r = 0) ∧ t.flags.pack = 0x02 ∧
    t.sp = s.params.spReset ∧ t.halted = false ∧ t.inte = false ∧ t.eiDelay = false ∧ t.mem = s.mem ∧ t.io = s.io ∧
    t.params = s.params

/-! ## Rules about the whole machine -/

/-- The I/O history only grows, by one event of an IN or OUT and by nothing else (R231, R232, R821). -/
def Obligations.StepExtendsIoHistory : Prop :=
  ∀ s t : State, s.halted = false → step s = .next t →
    (∀ p, s.fetch = .inp p → t.io = s.io ++ [.portIn p (t.getReg .a)]) ∧
    (∀ p, s.fetch = .out p → t.io = s.io ++ [.portOut p (s.getReg .a)]) ∧
    ((∀ p, s.fetch ≠ .inp p ∧ s.fetch ≠ .out p) → t.io = s.io)

/-- No instruction writes a flag that the table of flag writers does not give it (R127). -/
def Obligations.OnlyListedFlagsAreWritten : Prop :=
  ∀ (i : Instr) (s t : State) (n : FlagName), exec i s = .next t → n ∉ flagsWritten i.form →
    t.flags.get n = s.flags.get n

/-- SP is written by the instructions of R112 alone; PC ends at the next instruction unless the instruction is a control
transfer (R13); HLT alone sets halted and no instruction clears it (R130); EI and DI alone write inte (R131). -/
def Obligations.WhoWritesSpPcAndControl : Prop :=
  ∀ (i : Instr) (s t : State), exec i s = .next t →
    (mayChangeSp i.form = false → t.sp = s.sp) ∧
    (transfersControl i.form = false → t.pc.toNat = (s.pc.toNat + i.length) % 65536) ∧
    (i ≠ .hlt → t.halted = s.halted) ∧ (s.halted = true → t.halted = true) ∧
    (i ≠ .ei → i ≠ .di → t.inte = s.inte) ∧ (i ≠ .ei → t.eiDelay = s.eiDelay)

/-- AC is read only by DAA and PUSH PSW: of two states that differ in AC alone, every other instruction makes states
that differ at most in AC (R126). -/
def Obligations.OnlyDaaAndPushPswReadAc : Prop :=
  ∀ (i : Instr) (s t u : State) (ac : Bool), i ≠ .daa → i ≠ .pushPsw → exec i s = .next t →
    exec i (s.withAc ac) = .next u → u.withAc false = t.withAc false

/-- The writes listed for an instruction, applied in their order, are all that it does to memory (R211, R251). -/
def Obligations.ListedWritesAreMemoryEffect : Prop :=
  ∀ (i : Instr) (s t : State), exec i s = .next t → t.mem = s.mem.applyWrites (writesOf (dataAccesses i s))

/-- The cost of conditional jumps, calls and returns, and what the step reports (R712); every cost is from 4 to 18 (R821). -/
def Obligations.StepCosts : Prop :=
  (∀ (cc : Cond) (addr : Word) (f : Flags),
    tstates (rccInstr cc) f = (if CondTrue cc f then 11 else 5) ∧
    tstates (cccInstr cc addr) f = (if CondTrue cc f then 17 else 11) ∧ tstates (jccInstr cc addr) f = 10) ∧
  (∀ s : State, s.halted = false → stepResult s = .ok s.fetch (tstates s.fetch s.flags)) ∧
  ∀ (i : Instr) (f : Flags), 4 ≤ tstates i f ∧ tstates i f ≤ 18
end

