-- ==== Sys2Proof/Laws/State.lean ====
section
/-! SUPPORT. Reading a field of a state after an update: one lemma per field per update, so that no proof unfolds a record
update. -/

namespace Sys2Proof.Machine

/-! ## Address arithmetic -/

theorem sub_one_sub_one (a : Word) : a - 1 - 1 = a - 2 := by bv_omega

theorem add_one_add_one (a : Word) : a + 1 + 1 = a + 2 := by bv_omega

variable (s : State)


/-! ## setReg -/

@[simp] theorem State.setReg_sp (r : Reg8) (v : Byte) : (s.setReg r v).sp = s.sp := by cases r <;> rfl
@[simp] theorem State.setReg_pc (r : Reg8) (v : Byte) : (s.setReg r v).pc = s.pc := by cases r <;> rfl
@[simp] theorem State.setReg_flags (r : Reg8) (v : Byte) : (s.setReg r v).flags = s.flags := by cases r <;> rfl
@[simp] theorem State.setReg_halted (r : Reg8) (v : Byte) : (s.setReg r v).halted = s.halted := by cases r <;> rfl
@[simp] theorem State.setReg_inte (r : Reg8) (v : Byte) : (s.setReg r v).inte = s.inte := by cases r <;> rfl
@[simp] theorem State.setReg_eiDelay (r : Reg8) (v : Byte) : (s.setReg r v).eiDelay = s.eiDelay := by cases r <;> rfl
@[simp] theorem State.setReg_mem (r : Reg8) (v : Byte) : (s.setReg r v).mem = s.mem := by cases r <;> rfl
@[simp] theorem State.setReg_io (r : Reg8) (v : Byte) : (s.setReg r v).io = s.io := by cases r <;> rfl
@[simp] theorem State.setReg_params (r : Reg8) (v : Byte) : (s.setReg r v).params = s.params := by cases r <;> rfl
@[simp] theorem State.setReg_readByte (r : Reg8) (v : Byte) (x : Word) : (s.setReg r v).readByte x = s.readByte x := by simp [State.readByte]

/-- A register reads what was last written to it. -/
@[simp] theorem State.getReg_setReg_same (r : Reg8) (v : Byte) : (s.setReg r v).getReg r = v := by cases r <;> rfl

/-- A write to one register leaves the others. -/
theorem State.getReg_setReg_ne (r q : Reg8) (v : Byte) (h : q ≠ r) : (s.setReg r v).getReg q = s.getReg q := by
  cases r <;> cases q <;> first | rfl | exact absurd rfl h

/-- A register after a write, by cases. -/
theorem State.getReg_setReg (r q : Reg8) (v : Byte) :
    (s.setReg r v).getReg q = if q = r then v else s.getReg q := by
  cases r <;> cases q <;> rfl

/-! ## setSp -/

@[simp] theorem State.setSp_sp (v : Word) : (s.setSp v).sp = v := rfl
@[simp] theorem State.setSp_pc (v : Word) : (s.setSp v).pc = s.pc := rfl
@[simp] theorem State.setSp_flags (v : Word) : (s.setSp v).flags = s.flags := rfl
@[simp] theorem State.setSp_halted (v : Word) : (s.setSp v).halted = s.halted := rfl
@[simp] theorem State.setSp_inte (v : Word) : (s.setSp v).inte = s.inte := rfl
@[simp] theorem State.setSp_eiDelay (v : Word) : (s.setSp v).eiDelay = s.eiDelay := rfl
@[simp] theorem State.setSp_mem (v : Word) : (s.setSp v).mem = s.mem := rfl
@[simp] theorem State.setSp_io (v : Word) : (s.setSp v).io = s.io := rfl
@[simp] theorem State.setSp_params (v : Word) : (s.setSp v).params = s.params := rfl
@[simp] theorem State.setSp_getReg (v : Word) (r : Reg8) : (s.setSp v).getReg r = s.getReg r := rfl
@[simp] theorem State.setSp_readByte (v : Word) (x : Word) : (s.setSp v).readByte x = s.readByte x := rfl

/-! ## setPc -/

@[simp] theorem State.setPc_sp (v : Word) : (s.setPc v).sp = s.sp := rfl
@[simp] theorem State.setPc_pc (v : Word) : (s.setPc v).pc = v := rfl
@[simp] theorem State.setPc_flags (v : Word) : (s.setPc v).flags = s.flags := rfl
@[simp] theorem State.setPc_halted (v : Word) : (s.setPc v).halted = s.halted := rfl
@[simp] theorem State.setPc_inte (v : Word) : (s.setPc v).inte = s.inte := rfl
@[simp] theorem State.setPc_eiDelay (v : Word) : (s.setPc v).eiDelay = s.eiDelay := rfl
@[simp] theorem State.setPc_mem (v : Word) : (s.setPc v).mem = s.mem := rfl
@[simp] theorem State.setPc_io (v : Word) : (s.setPc v).io = s.io := rfl
@[simp] theorem State.setPc_params (v : Word) : (s.setPc v).params = s.params := rfl
@[simp] theorem State.setPc_getReg (v : Word) (r : Reg8) : (s.setPc v).getReg r = s.getReg r := rfl
@[simp] theorem State.setPc_readByte (v : Word) (x : Word) : (s.setPc v).readByte x = s.readByte x := rfl

/-! ## setFlags -/

@[simp] theorem State.setFlags_sp (f : Flags) : (s.setFlags f).sp = s.sp := rfl
@[simp] theorem State.setFlags_pc (f : Flags) : (s.setFlags f).pc = s.pc := rfl
@[simp] theorem State.setFlags_flags (f : Flags) : (s.setFlags f).flags = f := rfl
@[simp] theorem State.setFlags_halted (f : Flags) : (s.setFlags f).halted = s.halted := rfl
@[simp] theorem State.setFlags_inte (f : Flags) : (s.setFlags f).inte = s.inte := rfl
@[simp] theorem State.setFlags_eiDelay (f : Flags) : (s.setFlags f).eiDelay = s.eiDelay := rfl
@[simp] theorem State.setFlags_mem (f : Flags) : (s.setFlags f).mem = s.mem := rfl
@[simp] theorem State.setFlags_io (f : Flags) : (s.setFlags f).io = s.io := rfl
@[simp] theorem State.setFlags_params (f : Flags) : (s.setFlags f).params = s.params := rfl
@[simp] theorem State.setFlags_getReg (f : Flags) (r : Reg8) : (s.setFlags f).getReg r = s.getReg r := rfl
@[simp] theorem State.setFlags_readByte (f : Flags) (x : Word) : (s.setFlags f).readByte x = s.readByte x := rfl

/-! ## setCarry -/

@[simp] theorem State.setCarry_sp (cy : Bool) : (s.setCarry cy).sp = s.sp := rfl
@[simp] theorem State.setCarry_pc (cy : Bool) : (s.setCarry cy).pc = s.pc := rfl
@[simp] theorem State.setCarry_flags (cy : Bool) : (s.setCarry cy).flags = { s.flags with cy := cy } := rfl
@[simp] theorem State.setCarry_halted (cy : Bool) : (s.setCarry cy).halted = s.halted := rfl
@[simp] theorem State.setCarry_inte (cy : Bool) : (s.setCarry cy).inte = s.inte := rfl
@[simp] theorem State.setCarry_eiDelay (cy : Bool) : (s.setCarry cy).eiDelay = s.eiDelay := rfl
@[simp] theorem State.setCarry_mem (cy : Bool) : (s.setCarry cy).mem = s.mem := rfl
@[simp] theorem State.setCarry_io (cy : Bool) : (s.setCarry cy).io = s.io := rfl
@[simp] theorem State.setCarry_params (cy : Bool) : (s.setCarry cy).params = s.params := rfl
@[simp] theorem State.setCarry_getReg (cy : Bool) (r : Reg8) : (s.setCarry cy).getReg r = s.getReg r := rfl
@[simp] theorem State.setCarry_readByte (cy : Bool) (x : Word) : (s.setCarry cy).readByte x = s.readByte x := rfl

/-! ## advance -/

@[simp] theorem State.advance_sp (len : Nat) : (s.advance len).sp = s.sp := rfl
@[simp] theorem State.advance_pc (len : Nat) : (s.advance len).pc = s.pc + BitVec.ofNat 16 len := rfl
@[simp] theorem State.advance_flags (len : Nat) : (s.advance len).flags = s.flags := rfl
@[simp] theorem State.advance_halted (len : Nat) : (s.advance len).halted = s.halted := rfl
@[simp] theorem State.advance_inte (len : Nat) : (s.advance len).inte = s.inte := rfl
@[simp] theorem State.advance_eiDelay (len : Nat) : (s.advance len).eiDelay = s.eiDelay := rfl
@[simp] theorem State.advance_mem (len : Nat) : (s.advance len).mem = s.mem := rfl
@[simp] theorem State.advance_io (len : Nat) : (s.advance len).io = s.io := rfl
@[simp] theorem State.advance_params (len : Nat) : (s.advance len).params = s.params := rfl
@[simp] theorem State.advance_getReg (len : Nat) (r : Reg8) : (s.advance len).getReg r = s.getReg r := rfl
@[simp] theorem State.advance_readByte (len : Nat) (x : Word) : (s.advance len).readByte x = s.readByte x := rfl

/-! ## writeByte -/

@[simp] theorem State.writeByte_sp (a : Word) (v : Byte) : (s.writeByte a v).sp = s.sp := rfl
@[simp] theorem State.writeByte_pc (a : Word) (v : Byte) : (s.writeByte a v).pc = s.pc := rfl
@[simp] theorem State.writeByte_flags (a : Word) (v : Byte) : (s.writeByte a v).flags = s.flags := rfl
@[simp] theorem State.writeByte_halted (a : Word) (v : Byte) : (s.writeByte a v).halted = s.halted := rfl
@[simp] theorem State.writeByte_inte (a : Word) (v : Byte) : (s.writeByte a v).inte = s.inte := rfl
@[simp] theorem State.writeByte_eiDelay (a : Word) (v : Byte) : (s.writeByte a v).eiDelay = s.eiDelay := rfl
@[simp] theorem State.writeByte_mem (a : Word) (v : Byte) : (s.writeByte a v).mem = s.mem.write a v := rfl
@[simp] theorem State.writeByte_io (a : Word) (v : Byte) : (s.writeByte a v).io = s.io := rfl
@[simp] theorem State.writeByte_params (a : Word) (v : Byte) : (s.writeByte a v).params = s.params := rfl
@[simp] theorem State.writeByte_getReg (a : Word) (v : Byte) (r : Reg8) : (s.writeByte a v).getReg r = s.getReg r := rfl

/-! ## record -/

@[simp] theorem State.record_sp (ev : IoEvent) : (s.record ev).sp = s.sp := rfl
@[simp] theorem State.record_pc (ev : IoEvent) : (s.record ev).pc = s.pc := rfl
@[simp] theorem State.record_flags (ev : IoEvent) : (s.record ev).flags = s.flags := rfl
@[simp] theorem State.record_halted (ev : IoEvent) : (s.record ev).halted = s.halted := rfl
@[simp] theorem State.record_inte (ev : IoEvent) : (s.record ev).inte = s.inte := rfl
@[simp] theorem State.record_eiDelay (ev : IoEvent) : (s.record ev).eiDelay = s.eiDelay := rfl
@[simp] theorem State.record_mem (ev : IoEvent) : (s.record ev).mem = s.mem := rfl
@[simp] theorem State.record_io (ev : IoEvent) : (s.record ev).io = s.io ++ [ev] := rfl
@[simp] theorem State.record_params (ev : IoEvent) : (s.record ev).params = s.params := rfl
@[simp] theorem State.record_getReg (ev : IoEvent) (r : Reg8) : (s.record ev).getReg r = s.getReg r := rfl
@[simp] theorem State.record_readByte (ev : IoEvent) (x : Word) : (s.record ev).readByte x = s.readByte x := rfl

/-! ## retire -/

@[simp] theorem State.retire_sp (i : Instr) : (s.retire i).sp = s.sp := rfl
@[simp] theorem State.retire_pc (i : Instr) : (s.retire i).pc = s.pc := rfl
@[simp] theorem State.retire_flags (i : Instr) : (s.retire i).flags = s.flags := rfl
@[simp] theorem State.retire_halted (i : Instr) : (s.retire i).halted = s.halted := rfl
@[simp] theorem State.retire_inte (i : Instr) : (s.retire i).inte = s.inte := rfl
@[simp] theorem State.retire_eiDelay (i : Instr) : (s.retire i).eiDelay = if i = .ei then s.params.eiDelay else false := rfl
@[simp] theorem State.retire_mem (i : Instr) : (s.retire i).mem = s.mem := rfl
@[simp] theorem State.retire_io (i : Instr) : (s.retire i).io = s.io := rfl
@[simp] theorem State.retire_params (i : Instr) : (s.retire i).params = s.params := rfl
@[simp] theorem State.retire_getReg (i : Instr) (r : Reg8) : (s.retire i).getReg r = s.getReg r := rfl
@[simp] theorem State.retire_readByte (i : Instr) (x : Word) : (s.retire i).readByte x = s.readByte x := rfl

/-! ## setBc -/

@[simp] theorem State.setBc_sp (v : Word) : (s.setBc v).sp = s.sp := by simp [State.setBc]
@[simp] theorem State.setBc_pc (v : Word) : (s.setBc v).pc = s.pc := by simp [State.setBc]
@[simp] theorem State.setBc_flags (v : Word) : (s.setBc v).flags = s.flags := by simp [State.setBc]
@[simp] theorem State.setBc_halted (v : Word) : (s.setBc v).halted = s.halted := by simp [State.setBc]
@[simp] theorem State.setBc_inte (v : Word) : (s.setBc v).inte = s.inte := by simp [State.setBc]
@[simp] theorem State.setBc_eiDelay (v : Word) : (s.setBc v).eiDelay = s.eiDelay := by simp [State.setBc]
@[simp] theorem State.setBc_mem (v : Word) : (s.setBc v).mem = s.mem := by simp [State.setBc]
@[simp] theorem State.setBc_io (v : Word) : (s.setBc v).io = s.io := by simp [State.setBc]
@[simp] theorem State.setBc_params (v : Word) : (s.setBc v).params = s.params := by simp [State.setBc]
@[simp] theorem State.setBc_readByte (v : Word) (x : Word) : (s.setBc v).readByte x = s.readByte x := by simp [State.readByte]

/-! ## setDe -/

@[simp] theorem State.setDe_sp (v : Word) : (s.setDe v).sp = s.sp := by simp [State.setDe]
@[simp] theorem State.setDe_pc (v : Word) : (s.setDe v).pc = s.pc := by simp [State.setDe]
@[simp] theorem State.setDe_flags (v : Word) : (s.setDe v).flags = s.flags := by simp [State.setDe]
@[simp] theorem State.setDe_halted (v : Word) : (s.setDe v).halted = s.halted := by simp [State.setDe]
@[simp] theorem State.setDe_inte (v : Word) : (s.setDe v).inte = s.inte := by simp [State.setDe]
@[simp] theorem State.setDe_eiDelay (v : Word) : (s.setDe v).eiDelay = s.eiDelay := by simp [State.setDe]
@[simp] theorem State.setDe_mem (v : Word) : (s.setDe v).mem = s.mem := by simp [State.setDe]
@[simp] theorem State.setDe_io (v : Word) : (s.setDe v).io = s.io := by simp [State.setDe]
@[simp] theorem State.setDe_params (v : Word) : (s.setDe v).params = s.params := by simp [State.setDe]
@[simp] theorem State.setDe_readByte (v : Word) (x : Word) : (s.setDe v).readByte x = s.readByte x := by simp [State.readByte]

/-! ## setHl -/

@[simp] theorem State.setHl_sp (v : Word) : (s.setHl v).sp = s.sp := by simp [State.setHl]
@[simp] theorem State.setHl_pc (v : Word) : (s.setHl v).pc = s.pc := by simp [State.setHl]
@[simp] theorem State.setHl_flags (v : Word) : (s.setHl v).flags = s.flags := by simp [State.setHl]
@[simp] theorem State.setHl_halted (v : Word) : (s.setHl v).halted = s.halted := by simp [State.setHl]
@[simp] theorem State.setHl_inte (v : Word) : (s.setHl v).inte = s.inte := by simp [State.setHl]
@[simp] theorem State.setHl_eiDelay (v : Word) : (s.setHl v).eiDelay = s.eiDelay := by simp [State.setHl]
@[simp] theorem State.setHl_mem (v : Word) : (s.setHl v).mem = s.mem := by simp [State.setHl]
@[simp] theorem State.setHl_io (v : Word) : (s.setHl v).io = s.io := by simp [State.setHl]
@[simp] theorem State.setHl_params (v : Word) : (s.setHl v).params = s.params := by simp [State.setHl]
@[simp] theorem State.setHl_readByte (v : Word) (x : Word) : (s.setHl v).readByte x = s.readByte x := by simp [State.readByte]

/-! ## dropTop -/

@[simp] theorem State.dropTop_sp : s.dropTop.sp = s.sp + 2 := add_one_add_one s.sp
@[simp] theorem State.dropTop_pc : s.dropTop.pc = s.pc := rfl
@[simp] theorem State.dropTop_flags : s.dropTop.flags = s.flags := rfl
@[simp] theorem State.dropTop_halted : s.dropTop.halted = s.halted := rfl
@[simp] theorem State.dropTop_inte : s.dropTop.inte = s.inte := rfl
@[simp] theorem State.dropTop_eiDelay : s.dropTop.eiDelay = s.eiDelay := rfl
@[simp] theorem State.dropTop_mem : s.dropTop.mem = s.mem := rfl
@[simp] theorem State.dropTop_io : s.dropTop.io = s.io := rfl
@[simp] theorem State.dropTop_params : s.dropTop.params = s.params := rfl
@[simp] theorem State.dropTop_getReg  (r : Reg8) : s.dropTop.getReg r = s.getReg r := rfl
@[simp] theorem State.dropTop_readByte  (x : Word) : s.dropTop.readByte x = s.readByte x := rfl

/-! ## writeWord -/

@[simp] theorem State.writeWord_sp (a v : Word) : (s.writeWord a v).sp = s.sp := rfl
@[simp] theorem State.writeWord_pc (a v : Word) : (s.writeWord a v).pc = s.pc := rfl
@[simp] theorem State.writeWord_flags (a v : Word) : (s.writeWord a v).flags = s.flags := rfl
@[simp] theorem State.writeWord_halted (a v : Word) : (s.writeWord a v).halted = s.halted := rfl
@[simp] theorem State.writeWord_inte (a v : Word) : (s.writeWord a v).inte = s.inte := rfl
@[simp] theorem State.writeWord_eiDelay (a v : Word) : (s.writeWord a v).eiDelay = s.eiDelay := rfl
@[simp] theorem State.writeWord_mem (a v : Word) : (s.writeWord a v).mem = (s.mem.write a (loByte v)).write (a + 1) (hiByte v) := rfl
@[simp] theorem State.writeWord_io (a v : Word) : (s.writeWord a v).io = s.io := rfl
@[simp] theorem State.writeWord_params (a v : Word) : (s.writeWord a v).params = s.params := rfl
@[simp] theorem State.writeWord_getReg (a v : Word) (r : Reg8) : (s.writeWord a v).getReg r = s.getReg r := rfl

/-! ## push16 -/

@[simp] theorem State.push16_sp (v : Word) : (s.push16 v).sp = s.sp - 2 := sub_one_sub_one s.sp
@[simp] theorem State.push16_pc (v : Word) : (s.push16 v).pc = s.pc := rfl
@[simp] theorem State.push16_flags (v : Word) : (s.push16 v).flags = s.flags := rfl
@[simp] theorem State.push16_halted (v : Word) : (s.push16 v).halted = s.halted := rfl
@[simp] theorem State.push16_inte (v : Word) : (s.push16 v).inte = s.inte := rfl
@[simp] theorem State.push16_eiDelay (v : Word) : (s.push16 v).eiDelay = s.eiDelay := rfl
@[simp] theorem State.push16_mem (v : Word) : (s.push16 v).mem = (s.mem.write (s.sp - 1) (hiByte v)).write (s.sp - 2) (loByte v) := by rw [← sub_one_sub_one]; rfl
@[simp] theorem State.push16_io (v : Word) : (s.push16 v).io = s.io := rfl
@[simp] theorem State.push16_params (v : Word) : (s.push16 v).params = s.params := rfl
@[simp] theorem State.push16_getReg (v : Word) (r : Reg8) : (s.push16 v).getReg r = s.getReg r := rfl

/-! ## portRead -/

@[simp] theorem State.portRead_sp (p : Byte) : (s.portRead p).sp = s.sp := rfl
@[simp] theorem State.portRead_pc (p : Byte) : (s.portRead p).pc = s.pc := rfl
@[simp] theorem State.portRead_flags (p : Byte) : (s.portRead p).flags = s.flags := rfl
@[simp] theorem State.portRead_halted (p : Byte) : (s.portRead p).halted = s.halted := rfl
@[simp] theorem State.portRead_inte (p : Byte) : (s.portRead p).inte = s.inte := rfl
@[simp] theorem State.portRead_eiDelay (p : Byte) : (s.portRead p).eiDelay = s.eiDelay := rfl
@[simp] theorem State.portRead_mem (p : Byte) : (s.portRead p).mem = s.mem := rfl
@[simp] theorem State.portRead_io (p : Byte) : (s.portRead p).io = s.io ++ [.portIn p (s.inputByte p)] := rfl
@[simp] theorem State.portRead_params (p : Byte) : (s.portRead p).params = s.params := rfl
@[simp] theorem State.portRead_getReg (p : Byte) (r : Reg8) : (s.portRead p).getReg r = s.getReg r := rfl
@[simp] theorem State.portRead_readByte (p : Byte) (x : Word) : (s.portRead p).readByte x = s.readByte x := rfl

/-! ## portWrite -/

@[simp] theorem State.portWrite_sp (p v : Byte) : (s.portWrite p v).sp = s.sp := rfl
@[simp] theorem State.portWrite_pc (p v : Byte) : (s.portWrite p v).pc = s.pc := rfl
@[simp] theorem State.portWrite_flags (p v : Byte) : (s.portWrite p v).flags = s.flags := rfl
@[simp] theorem State.portWrite_halted (p v : Byte) : (s.portWrite p v).halted = s.halted := rfl
@[simp] theorem State.portWrite_inte (p v : Byte) : (s.portWrite p v).inte = s.inte := rfl
@[simp] theorem State.portWrite_eiDelay (p v : Byte) : (s.portWrite p v).eiDelay = s.eiDelay := rfl
@[simp] theorem State.portWrite_mem (p v : Byte) : (s.portWrite p v).mem = s.mem := rfl
@[simp] theorem State.portWrite_io (p v : Byte) : (s.portWrite p v).io = s.io ++ [.portOut p v] := rfl
@[simp] theorem State.portWrite_params (p v : Byte) : (s.portWrite p v).params = s.params := rfl
@[simp] theorem State.portWrite_getReg (p v : Byte) (r : Reg8) : (s.portWrite p v).getReg r = s.getReg r := rfl
@[simp] theorem State.portWrite_readByte (p v : Byte) (x : Word) : (s.portWrite p v).readByte x = s.readByte x := rfl

/-! ## setAlu -/

@[simp] theorem State.setAlu_sp (r : AluResult) : (s.setAlu r).sp = s.sp := by simp [State.setAlu]
@[simp] theorem State.setAlu_pc (r : AluResult) : (s.setAlu r).pc = s.pc := by simp [State.setAlu]
@[simp] theorem State.setAlu_flags (r : AluResult) : (s.setAlu r).flags = r.flags := by simp [State.setAlu]
@[simp] theorem State.setAlu_halted (r : AluResult) : (s.setAlu r).halted = s.halted := by simp [State.setAlu]
@[simp] theorem State.setAlu_inte (r : AluResult) : (s.setAlu r).inte = s.inte := by simp [State.setAlu]
@[simp] theorem State.setAlu_eiDelay (r : AluResult) : (s.setAlu r).eiDelay = s.eiDelay := by simp [State.setAlu]
@[simp] theorem State.setAlu_mem (r : AluResult) : (s.setAlu r).mem = s.mem := by simp [State.setAlu]
@[simp] theorem State.setAlu_io (r : AluResult) : (s.setAlu r).io = s.io := by simp [State.setAlu]
@[simp] theorem State.setAlu_params (r : AluResult) : (s.setAlu r).params = s.params := by simp [State.setAlu]
@[simp] theorem State.setAlu_readByte (r : AluResult) (x : Word) : (s.setAlu r).readByte x = s.readByte x := by simp [State.readByte]

/-! ## restart -/

@[simp] theorem State.restart_sp (n : Fin 8) : (s.restart n).sp = s.sp - 2 := sub_one_sub_one s.sp
@[simp] theorem State.restart_pc (n : Fin 8) : (s.restart n).pc = vector n := rfl
@[simp] theorem State.restart_flags (n : Fin 8) : (s.restart n).flags = s.flags := rfl
@[simp] theorem State.restart_halted (n : Fin 8) : (s.restart n).halted = s.halted := rfl
@[simp] theorem State.restart_inte (n : Fin 8) : (s.restart n).inte = s.inte := rfl
@[simp] theorem State.restart_eiDelay (n : Fin 8) : (s.restart n).eiDelay = s.eiDelay := rfl
@[simp] theorem State.restart_mem (n : Fin 8) : (s.restart n).mem = (s.mem.write (s.sp - 1) (hiByte s.pc)).write (s.sp - 2) (loByte s.pc) := by rw [← sub_one_sub_one]; rfl
@[simp] theorem State.restart_io (n : Fin 8) : (s.restart n).io = s.io := rfl
@[simp] theorem State.restart_params (n : Fin 8) : (s.restart n).params = s.params := rfl
@[simp] theorem State.restart_getReg (n : Fin 8) (r : Reg8) : (s.restart n).getReg r = s.getReg r := rfl

/-! ## returnToTop -/

@[simp] theorem State.returnToTop_sp : s.returnToTop.sp = s.sp + 2 := add_one_add_one s.sp
@[simp] theorem State.returnToTop_pc : s.returnToTop.pc = s.top16 := rfl
@[simp] theorem State.returnToTop_flags : s.returnToTop.flags = s.flags := rfl
@[simp] theorem State.returnToTop_halted : s.returnToTop.halted = s.halted := rfl
@[simp] theorem State.returnToTop_inte : s.returnToTop.inte = s.inte := rfl
@[simp] theorem State.returnToTop_eiDelay : s.returnToTop.eiDelay = s.eiDelay := rfl
@[simp] theorem State.returnToTop_mem : s.returnToTop.mem = s.mem := rfl
@[simp] theorem State.returnToTop_io : s.returnToTop.io = s.io := rfl
@[simp] theorem State.returnToTop_params : s.returnToTop.params = s.params := rfl
@[simp] theorem State.returnToTop_getReg  (r : Reg8) : s.returnToTop.getReg r = s.getReg r := rfl
@[simp] theorem State.returnToTop_readByte  (x : Word) : s.returnToTop.readByte x = s.readByte x := rfl

/-! ## setPsw -/

@[simp] theorem State.setPsw_sp (w : Word) : (s.setPsw w).sp = s.sp := by simp [State.setPsw]
@[simp] theorem State.setPsw_pc (w : Word) : (s.setPsw w).pc = s.pc := by simp [State.setPsw]
@[simp] theorem State.setPsw_flags (w : Word) : (s.setPsw w).flags = .unpack (loByte w) := by simp [State.setPsw]
@[simp] theorem State.setPsw_halted (w : Word) : (s.setPsw w).halted = s.halted := by simp [State.setPsw]
@[simp] theorem State.setPsw_inte (w : Word) : (s.setPsw w).inte = s.inte := by simp [State.setPsw]
@[simp] theorem State.setPsw_eiDelay (w : Word) : (s.setPsw w).eiDelay = s.eiDelay := by simp [State.setPsw]
@[simp] theorem State.setPsw_mem (w : Word) : (s.setPsw w).mem = s.mem := by simp [State.setPsw]
@[simp] theorem State.setPsw_io (w : Word) : (s.setPsw w).io = s.io := by simp [State.setPsw]
@[simp] theorem State.setPsw_params (w : Word) : (s.setPsw w).params = s.params := by simp [State.setPsw]
@[simp] theorem State.setPsw_readByte (w : Word) (x : Word) : (s.setPsw w).readByte x = s.readByte x := by simp [State.readByte]

/-! ## Pairs (R110) -/

/-- B and C after `x[BC] <- v`. -/
theorem State.setBc_getReg (v : Word) (q : Reg8) :
    (s.setBc v).getReg q = if q = .b then hiByte v else if q = .c then loByte v else s.getReg q := by
  cases q <;> rfl

/-- D and E after `x[DE] <- v`. -/
theorem State.setDe_getReg (v : Word) (q : Reg8) :
    (s.setDe v).getReg q = if q = .d then hiByte v else if q = .e then loByte v else s.getReg q := by
  cases q <;> rfl

/-- H and L after `x[HL] <- v`. -/
theorem State.setHl_getReg (v : Word) (q : Reg8) :
    (s.setHl v).getReg q = if q = .h then hiByte v else if q = .l then loByte v else s.getReg q := by
  cases q <;> rfl

/-- A after an ALU result is written. -/
theorem State.setAlu_getReg (r : AluResult) (q : Reg8) :
    (s.setAlu r).getReg q = if q = .a then r.value else s.getReg q := by
  cases q <;> rfl

/-- A after POP PSW's write. -/
theorem State.setPsw_getReg (w : Word) (q : Reg8) :
    (s.setPsw w).getReg q = if q = .a then hiByte w else s.getReg q := by
  cases q <;> rfl

end Sys2Proof.Machine
end

