-- ==== Sys2Proof/Laws/Bytes.lean ====
section
/-! SUPPORT. Splitting and joining the bytes of a word (R10, R110). -/

namespace Sys2Proof

/-- What holds of the 256 numbers of a byte holds of every byte. -/
theorem forall_byte {P : Byte → Prop} (h : ∀ n, n < 256 → P (BitVec.ofNat 8 n)) (v : Byte) : P v := by
  have hv : BitVec.ofNat 8 v.toNat = v := by simp
  exact hv ▸ h v.toNat v.isLt

/-- `hi:lo` as a number is `hi*256 + lo` (R10). -/
theorem ofBytes_toNat (hi lo : Byte) : (ofBytes hi lo).toNat = hi.toNat * 256 + lo.toNat := by
  show (hi ++ lo : BitVec (8 + 8)).toNat = _
  rw [BitVec.toNat_append, ← Nat.shiftLeft_add_eq_or_of_lt lo.isLt, Nat.shiftLeft_eq]

theorem hiByte_toNat (w : Word) : (hiByte w).toNat = w.toNat / 256 := by
  have := w.isLt
  simp only [hiByte, BitVec.extractLsb'_toNat, Nat.shiftRight_eq_div_pow]
  omega

theorem loByte_toNat (w : Word) : (loByte w).toNat = w.toNat % 256 := by
  simp [loByte, BitVec.extractLsb'_toNat]

@[simp] theorem hiByte_ofBytes (hi lo : Byte) : hiByte (ofBytes hi lo) = hi := by
  apply BitVec.eq_of_toNat_eq
  have := lo.isLt
  rw [hiByte_toNat, ofBytes_toNat]
  omega

@[simp] theorem loByte_ofBytes (hi lo : Byte) : loByte (ofBytes hi lo) = lo := by
  apply BitVec.eq_of_toNat_eq
  have := lo.isLt
  rw [loByte_toNat, ofBytes_toNat]
  omega

@[simp] theorem ofBytes_hiByte_loByte (w : Word) : ofBytes (hiByte w) (loByte w) = w := by
  apply BitVec.eq_of_toNat_eq
  rw [ofBytes_toNat, hiByte_toNat, loByte_toNat]
  omega

end Sys2Proof

namespace Sys2Proof.Machine

variable (s : State)

@[simp] theorem State.bc_setBc (v : Word) : (s.setBc v).bc = v := by
  simp [State.bc, State.setBc_getReg]

@[simp] theorem State.de_setDe (v : Word) : (s.setDe v).de = v := by
  simp [State.de, State.setDe_getReg]

@[simp] theorem State.hl_setHl (v : Word) : (s.setHl v).hl = v := by
  simp [State.hl, State.setHl_getReg]

end Sys2Proof.Machine
end

