-- ==== Sys2Proof/Laws/Memory.lean ====
section
/-! SUPPORT. The laws of memory: a read after a write, and the canonical form that every memory operation keeps. -/

namespace Sys2Proof.Machine

theorem Memory.readCell_eraseCell_same (m : Memory) (a : Nat) : (m.eraseCell a).readCell a = Memory.unlisted := by
  induction m with
  | nil => rfl
  | cons c m ih =>
    obtain ⟨b, w⟩ := c
    by_cases h : b = a
    · simp [Memory.eraseCell, h, ih]
    · simp [Memory.eraseCell, Memory.readCell, h, ih]

theorem Memory.readCell_eraseCell_ne (m : Memory) (a x : Nat) (hx : x ≠ a) :
    (m.eraseCell a).readCell x = m.readCell x := by
  induction m with
  | nil => rfl
  | cons c m ih =>
    obtain ⟨b, w⟩ := c
    by_cases h : b = a
    · subst h
      simp [Memory.eraseCell, Memory.readCell, ih, Ne.symm hx]
    · by_cases hb : b = x
      · subst hb
        simp [Memory.eraseCell, Memory.readCell, h]
      · simp [Memory.eraseCell, Memory.readCell, h, hb, ih]

theorem Memory.readCell_insertCell_ne (m : Memory) (a x : Nat) (v : Byte) (hx : x ≠ a) :
    (m.insertCell a v).readCell x = m.readCell x := by
  induction m with
  | nil => simp [Memory.insertCell, Memory.readCell, Ne.symm hx]
  | cons c m ih =>
    obtain ⟨b, w⟩ := c
    by_cases h : a < b
    · simp [Memory.insertCell, Memory.readCell, h, Ne.symm hx]
    · by_cases hb : b = x
      · subst hb
        simp [Memory.insertCell, Memory.readCell, h]
      · simp [Memory.insertCell, Memory.readCell, h, hb, ih]

theorem Memory.readCell_insertCell_erased (m : Memory) (a : Nat) (v : Byte) :
    ((m.eraseCell a).insertCell a v).readCell a = v := by
  induction m with
  | nil => simp [Memory.eraseCell, Memory.insertCell, Memory.readCell]
  | cons c m ih =>
    obtain ⟨b, w⟩ := c
    by_cases h : b = a
    · simpa [Memory.eraseCell, h] using ih
    · by_cases hl : a < b <;> simp [Memory.eraseCell, Memory.insertCell, Memory.readCell, h, hl, ih]

/-- A byte reads what was last written to it (R204, R206). -/
@[simp] theorem Memory.read_write_same (m : Memory) (a : Word) (v : Byte) : (m.write a v).read a = v := by
  unfold Memory.write Memory.read
  split
  · next h => rw [readCell_eraseCell_same, h]
  · exact readCell_insertCell_erased m a.toNat v

/-- A write leaves every other byte. -/
theorem Memory.read_write_ne (m : Memory) (a x : Word) (v : Byte) (h : x ≠ a) : (m.write a v).read x = m.read x := by
  have hn : x.toNat ≠ a.toNat := fun e => h (BitVec.eq_of_toNat_eq e)
  unfold Memory.write Memory.read
  split
  · exact readCell_eraseCell_ne m _ _ hn
  · rw [readCell_insertCell_ne _ _ _ _ hn, readCell_eraseCell_ne m _ _ hn]

/-- A byte after a write, by cases. -/
theorem Memory.read_write (m : Memory) (a x : Word) (v : Byte) :
    (m.write a v).read x = if x = a then v else m.read x := by
  split
  · next h => rw [h, read_write_same]
  · next h => exact read_write_ne m a x v h

/-! ## The canonical form -/

theorem Memory.wfFrom_mono (m : Memory) (lo lo' : Nat) (h : lo' ≤ lo) (hm : m.wfFrom lo = true) :
    m.wfFrom lo' = true := by
  cases m with
  | nil => rfl
  | cons c m =>
    obtain ⟨b, w⟩ := c
    simp only [Memory.wfFrom, Bool.and_eq_true, decide_eq_true_eq] at hm ⊢
    exact ⟨⟨⟨by omega, hm.1.1.2⟩, hm.1.2⟩, hm.2⟩

theorem Memory.wfFrom_eraseCell (m : Memory) (a lo : Nat) (hm : m.wfFrom lo = true) :
    (m.eraseCell a).wfFrom lo = true := by
  induction m generalizing lo with
  | nil => rfl
  | cons c m ih =>
    obtain ⟨b, w⟩ := c
    simp only [Memory.wfFrom, Bool.and_eq_true, decide_eq_true_eq] at hm
    by_cases h : b = a
    · simp only [Memory.eraseCell, h, if_true]
      exact wfFrom_mono _ (b + 1) lo (by omega) (by simpa [h] using ih (b + 1) hm.2)
    · simp only [Memory.eraseCell, h, if_false, Memory.wfFrom, Bool.and_eq_true, decide_eq_true_eq]
      exact ⟨hm.1, ih (b + 1) hm.2⟩

theorem Memory.wfFrom_insertCell (m : Memory) (a lo : Nat) (v : Byte) (hm : m.wfFrom lo = true)
    (ha : lo ≤ a) (hb : a < 65536) (hv : v ≠ Memory.unlisted) (hn : ∀ w, (a, w) ∉ m) :
    (m.insertCell a v).wfFrom lo = true := by
  induction m generalizing lo with
  | nil => simp [Memory.insertCell, Memory.wfFrom, ha, hb, hv]
  | cons c m ih =>
    obtain ⟨b, w⟩ := c
    simp only [Memory.wfFrom, Bool.and_eq_true, decide_eq_true_eq] at hm
    by_cases h : a < b
    · simp only [Memory.insertCell, h, if_true, Memory.wfFrom, Bool.and_eq_true, decide_eq_true_eq]
      exact ⟨⟨⟨ha, hb⟩, hv⟩, ⟨⟨by omega, hm.1.1.2⟩, hm.1.2⟩, hm.2⟩
    · have hba : b ≠ a := fun e => hn w (by simp [e])
      simp only [Memory.insertCell, h, if_false, Memory.wfFrom, Bool.and_eq_true, decide_eq_true_eq]
      exact ⟨hm.1, ih (b + 1) hm.2 (by omega) fun w' hw => hn w' (List.mem_cons_of_mem _ hw)⟩

theorem Memory.notMem_eraseCell (m : Memory) (a : Nat) (w : Byte) : (a, w) ∉ m.eraseCell a := by
  induction m with
  | nil => simp [Memory.eraseCell]
  | cons c m ih =>
    obtain ⟨b, x⟩ := c
    by_cases h : b = a
    · simpa [Memory.eraseCell, h] using ih
    · simpa [Memory.eraseCell, h, Ne.symm h] using ih

/-- A write keeps the canonical form. -/
theorem Memory.wf_write (m : Memory) (a : Word) (v : Byte) (hm : m.wf = true) : (m.write a v).wf = true := by
  unfold Memory.write
  split
  · exact wfFrom_eraseCell m _ 0 hm
  · next h =>
    exact wfFrom_insertCell _ _ 0 v (wfFrom_eraseCell m _ 0 hm) (Nat.zero_le _) a.isLt h (notMem_eraseCell m _)

/-- Stores of several bytes keep the canonical form. -/
theorem Memory.wf_writeBytes (bytes : List Byte) (m : Memory) (a : Word) (hm : m.wf = true) :
    (m.writeBytes a bytes).wf = true := by
  induction bytes generalizing m a with
  | nil => exact hm
  | cons v rest ih => exact ih _ _ (wf_write m a v hm)

/-- Stores of at most 65536 bytes put byte `j` at address `a + j`, modulo 65536, and leave every other address. -/
theorem Memory.read_writeBytes (bytes : List Byte) (m : Memory) (a : Word) (hl : bytes.length ≤ 65536) :
    (∀ (j : Nat) (h : j < bytes.length), (m.writeBytes a bytes).read (a + BitVec.ofNat 16 j) = bytes[j]) ∧
    ∀ x : Word, (∀ j < bytes.length, x ≠ a + BitVec.ofNat 16 j) → (m.writeBytes a bytes).read x = m.read x := by
  induction bytes generalizing m a with
  | nil => exact ⟨fun j h => absurd h (Nat.not_lt_zero j), fun _ _ => rfl⟩
  | cons v rest ih =>
    rw [List.length_cons] at hl
    have hnext : ∀ j, a + BitVec.ofNat 16 (j + 1) = a + 1 + BitVec.ofNat 16 j := by
      intro j
      apply BitVec.eq_of_toNat_eq
      simp
      omega
    obtain ⟨hread, hkeep⟩ := ih (m.write a v) (a + 1) (by omega)
    simp only [Memory.writeBytes]
    refine ⟨fun j hj => ?_, fun x hx => ?_⟩
    · cases j with
      | zero =>
        rw [hkeep]
        · simp
        · intro k hk h
          have := congrArg BitVec.toNat h
          simp at this hk
          omega
      | succ j =>
        rw [hnext, hread j (by simpa using hj)]
        rfl
    · rw [hkeep _ fun j hj => hnext j ▸ hx (j + 1) (by simpa using hj)]
      exact Memory.read_write_ne m a x v (by simpa using hx 0 (by simp))

/-- Writes in order keep the canonical form. -/
theorem Memory.wf_applyWrites (writes : List (Word × Byte)) (m : Memory) (hm : m.wf = true) :
    (m.applyWrites writes).wf = true := by
  induction writes generalizing m with
  | nil => exact hm
  | cons w rest ih => exact ih _ (wf_write m w.1 w.2 hm)

/-- The memory of the reset state is in canonical form. -/
theorem Memory.wf_reset : State.reset.mem.wf = true := rfl

/-! ## Bytes of the machine's memory -/

variable (s : State)

/-- The machine reads what was last written. -/
@[simp] theorem State.readByte_writeByte_same (a : Word) (v : Byte) : (s.writeByte a v).readByte a = v :=
  Memory.read_write_same s.mem a v

/-- A byte of the machine's memory after a write, by cases. -/
theorem State.readByte_writeByte (a x : Word) (v : Byte) :
    (s.writeByte a v).readByte x = if x = a then v else s.readByte x :=
  Memory.read_write s.mem a x v

/-- An address and the next one differ (R202). -/
theorem succ_ne_self (a : Word) : a + 1 ≠ a := by
  intro h
  bv_omega

end Sys2Proof.Machine
end

