-- ==== Sys2Proof/Laws/Ops.lean ====
section
/-! SUPPORT. One law per shared operation, saying everything it can do to what a proof reads: bytes, words, the stack,
operands, restart and interrupt acceptance. -/

namespace Sys2Proof.Machine

variable (s : State)

/-! ## Words (R205, R207) -/

theorem State.writeWord_readByte (a v x : Word) :
    (s.writeWord a v).readByte x = if x = a + 1 then hiByte v else if x = a then loByte v else s.readByte x := by
  simp [State.writeWord, State.readByte_writeByte]

@[simp] theorem State.writeWord_readWord (a v : Word) : (s.writeWord a v).readWord a = v := by
  simp [State.readWord, State.writeWord_readByte]

/-! ## The stack (R801, R802) -/

theorem State.push16_readByte (v x : Word) :
    (s.push16 v).readByte x =
      if x = s.sp - 2 then loByte v else if x = s.sp - 1 then hiByte v else s.readByte x := by
  simp only [State.push16, State.readByte_writeByte, State.setSp_readByte, State.writeByte_sp, State.setSp_sp,
    sub_one_sub_one]

/-- A pushed word is on top of the stack (R802). -/
@[simp] theorem State.push16_top16 (v : Word) : (s.push16 v).top16 = v := by
  have h : s.sp - 2 + 1 = s.sp - 1 := by bv_omega
  have h1 : s.sp - 1 ≠ s.sp - 2 := by bv_omega
  rw [State.top16, State.push16_sp, h, State.push16_readByte, State.push16_readByte, if_neg h1, if_pos rfl, if_pos rfl,
    ofBytes_hiByte_loByte]

/-- Push then pop restores SP (R802). -/
@[simp] theorem State.push16_dropTop_sp (v : Word) : (s.push16 v).dropTop.sp = s.sp := by
  rw [State.dropTop_sp, State.push16_sp]
  bv_omega

theorem State.top16_eq_readWord : s.top16 = s.readWord s.sp := rfl

/-! ## Operands (R500, R304) -/

theorem State.dst8_getReg (x : Operand8) (v : Byte) (q : Reg8) :
    (s.dst8 x v).getReg q = if x = .reg q then v else s.getReg q := by
  cases x with
  | reg r => cases r <;> cases q <;> rfl
  | mem => rfl

theorem State.dst8_readByte (x : Operand8) (v : Byte) (a : Word) :
    (s.dst8 x v).readByte a = if x = .mem ∧ a = s.hl then v else s.readByte a := by
  cases x with
  | reg r => simp [State.dst8]
  | mem => simp [State.dst8, State.readByte_writeByte]

theorem State.setPair_getPair (rp : RegPair) (v : Word) : (s.setPair rp v).getPair rp = v := by
  cases rp
  · exact State.bc_setBc s v
  · exact State.de_setDe s v
  · exact State.hl_setHl s v
  · rfl

/-- An operand write leaves SP, the flags and the control bits. -/
theorem State.dst8_keeps (x : Operand8) (v : Byte) :
    (s.dst8 x v).sp = s.sp ∧ (s.dst8 x v).pc = s.pc ∧ (s.dst8 x v).flags = s.flags ∧ (s.dst8 x v).halted = s.halted ∧
    (s.dst8 x v).inte = s.inte ∧ (s.dst8 x v).eiDelay = s.eiDelay ∧ (s.dst8 x v).io = s.io ∧
    (s.dst8 x v).params = s.params := by
  cases x with
  | reg r => cases r <;> exact ⟨rfl, rfl, rfl, rfl, rfl, rfl, rfl, rfl⟩
  | mem => exact ⟨rfl, rfl, rfl, rfl, rfl, rfl, rfl, rfl⟩

/-! ## Restart and acceptance (R707, R912) -/

theorem State.restart_readByte (n : Fin 8) (x : Word) :
    (s.restart n).readByte x =
      if x = s.sp - 2 then loByte s.pc else if x = s.sp - 1 then hiByte s.pc else s.readByte x :=
  State.push16_readByte s s.pc x

/-- What an accepted interrupt makes of the machine: the restart at the vector, interrupts off, running (R912). -/
theorem State.acceptInterrupt_eq (n : Fin 8) :
    s.acceptInterrupt n = { s.restart n with inte := false, halted := false } := rfl

theorem State.canAccept_acceptInterrupt (n : Fin 8) : (s.acceptInterrupt n).canAccept = false := rfl

/-- Vectors lie at `8*n` (R307). -/
theorem vector_toNat (n : Fin 8) : (vector n).toNat = 8 * n.val := by
  revert n
  decide

end Sys2Proof.Machine
end

