-- ==== Sys2Proof/Laws/Exec.lean ====
section
/-! SUPPORT. What executing an instruction can do, said once: `exec` answers the next state that the rule of the
instruction's form gives. Proofs about all instructions split over the forms, not over the constructors. -/

namespace Sys2Proof.Machine

/-- The state transformer of a form: the operation of its rule. -/
def runForm (f : Form) (s : State) : State :=
  match f with
  | .movRR dst src => opMovRR dst src s
  | .movRM dst => opMovRM dst s
  | .movMR src => opMovMR src s
  | .mviR dst v => opMviR dst v s
  | .mviM v => opMviM v s
  | .lxi rp v => opLxi rp v s
  | .lda addr => opLda addr s
  | .sta addr => opSta addr s
  | .lhld addr => opLhld addr s
  | .shld addr => opShld addr s
  | .ldax rp => opLdax rp s
  | .stax rp => opStax rp s
  | .xchg => opXchg s
  | .alu op x => opAlu op x s
  | .aluImm op v => opAluImm op v s
  | .inr x => opInr x s
  | .dcr x => opDcr x s
  | .inx rp => opInx rp s
  | .dcx rp => opDcx rp s
  | .dad rp => opDad rp s
  | .daa => opDaa s
  | .rlc => opRlc s
  | .rrc => opRrc s
  | .ral => opRal s
  | .rar => opRar s
  | .cma => opCma s
  | .cmc => opCmc s
  | .stc => opStc s
  | .jmp addr => opJmp addr s
  | .jcc cc addr => opJcc cc addr s
  | .call addr => opCall addr s
  | .ccc cc addr => opCcc cc addr s
  | .ret => opRet s
  | .rcc cc => opRcc cc s
  | .rst n => opRst n s
  | .pchl => opPchl s
  | .push rp => opPush rp s
  | .pop rp => opPop rp s
  | .xthl => opXthl s
  | .sphl => opSphl s
  | .inp port => opIn port s
  | .out port => opOut port s
  | .ei => opEi s
  | .di => opDi s
  | .hlt => opHlt s
  | .nop => opNop s

/-- Executing an instruction runs its form. -/
theorem exec_eq_runForm (i : Instr) (s : State) : exec i s = .next (runForm i.form s) := by
  cases i <;> rfl

/-- The form of a form's constructor is that form. -/
@[simp] theorem form_instr (f : Form) : f.instr.form = f := by
  cases f with
  | movRR dst src => cases dst <;> cases src <;> rfl
  | alu op x =>
    cases x with
    | reg r => cases op <;> cases r <;> rfl
    | mem => cases op <;> rfl
  | aluImm op v => cases op <;> rfl
  | inr x =>
    cases x with
    | reg r => cases r <;> rfl
    | mem => rfl
  | dcr x =>
    cases x with
    | reg r => cases r <;> rfl
    | mem => rfl
  | movRM r => cases r <;> rfl
  | movMR r => cases r <;> rfl
  | mviR r v => cases r <;> rfl
  | lxi rp v => cases rp <;> rfl
  | inx rp => cases rp <;> rfl
  | dcx rp => cases rp <;> rfl
  | dad rp => cases rp <;> rfl
  | ldax rp => cases rp <;> rfl
  | stax rp => cases rp <;> rfl
  | push rp => cases rp <;> rfl
  | pop rp => cases rp <;> rfl
  | jcc cc addr => cases cc <;> rfl
  | ccc cc addr => cases cc <;> rfl
  | rcc cc => cases cc <;> rfl
  | rst n => revert n; decide
  | _ => rfl

/-- The constructor of an instruction's form is that instruction. -/
@[simp] theorem instr_form (i : Instr) : i.form.instr = i := by
  cases i <;> rfl

/-- The cost of a form's constructor is the cost of the form (R820). -/
theorem tstates_instr (f : Form) (g : Flags) : tstates f.instr g = Form.tstates f g := by
  rw [tstates, form_instr]

/-- The code of a form's constructor is the code of the form (R302). -/
theorem encode_instr (f : Form) : encode f.instr = f.encode := by
  rw [encode, form_instr]

/-- Executing the instruction of a form runs that form. -/
theorem exec_instr (f : Form) (s : State) : exec f.instr s = .next (runForm f s) := by
  rw [exec_eq_runForm, form_instr]

/-- What `exec` answers is a next state, and which. -/
theorem exec_next (i : Instr) (s t : State) (h : exec i s = .next t) : t = runForm i.form s := by
  rw [exec_eq_runForm] at h
  exact (Host.Outcome.next.inj h).symm

/-- What a running step answers (R820). -/
theorem step_running (s : State) (h : s.halted = false) :
    step s = .next ((runForm s.fetch.form s).retire s.fetch) := by
  simp only [step, h, exec_eq_runForm, Bool.false_eq_true, if_false]

/-- What a halted step answers (R822). -/
theorem step_halted (s : State) (h : s.halted = true) : step s = .next s := by
  simp only [step, h, if_true, State.haltedStep]

end Sys2Proof.Machine
end

