-- ==== Sys2Proof/Laws/Flags.lean ====
section
/-! SUPPORT. One law per flag computation, in plain arithmetic: what it makes of its operands, so that no later proof
unfolds it. -/

namespace Sys2Proof.Machine

/-- What `szp` says of each of the 256 results (R14). -/
theorem szp_spec_ofNat (ac cy : Bool) (n : Nat) (hn : n < 256) :
    SzpOf (szp (BitVec.ofNat 8 n) ac cy) (BitVec.ofNat 8 n) := by
  interval_cases n <;>
    exact ⟨by show _ = true ↔ _; revert ac cy; decide, by revert ac cy; decide, by revert ac cy; decide⟩

/-- S, Z and P of a result byte (R14). -/
theorem szp_spec (r : Byte) (ac cy : Bool) : SzpOf (szp r ac cy) r := by
  have h := szp_spec_ofNat ac cy r.toNat r.isLt
  rwa [BitVec.ofNat_toNat, BitVec.setWidth_eq] at h

/-- The sum and its flags (R501). -/
theorem add8_spec (a b : Byte) (c : Bool) : AddLeaves a b c (add8 a b c).value (add8 a b c).flags := by
  refine ⟨?_, ?_, ?_, szp_spec _ _ _⟩ <;> simp [add8, szp, lowNibble]

/-- The difference and its flags, under both values of AC_SUB_MODE (R502). -/
theorem sub8_spec (mode : AcSubMode) (a b : Byte) (w : Bool) :
    SubLeaves mode a b w (sub8 mode a b w).value (sub8 mode a b w).flags := by
  have ha := a.isLt
  have hb := b.isLt
  have hw := w.toNat_le
  refine ⟨?_, ?_, ?_, ?_, szp_spec _ _ _⟩
  · simp only [sub8, BitVec.toNat_ofInt]
    omega
  · simp only [sub8, szp, decide_eq_true_eq]
    omega
  · rintro rfl
    simp only [sub8, szp, subAc, lowNibble, decide_eq_true_eq, BitVec.toNat_not]
    omega
  · rintro rfl
    exact decide_eq_true_iff

/-- The conjunction and its flags, under both values of AC_AND_MODE (R600). -/
theorem and8_spec (mode : AcAndMode) (a b : Byte) : AndLeaves mode a b (and8 mode a b).value (and8 mode a b).flags := by
  refine ⟨rfl, rfl, ?_, ?_, szp_spec _ _ _⟩ <;> rintro rfl <;> simp [and8, szp, andAc]

/-- The flags of an exclusive or (R600). -/
theorem xor8_spec (a b : Byte) : (xor8 a b).value = a ^^^ b ∧ LogicLeaves (a ^^^ b) (xor8 a b).flags :=
  ⟨rfl, rfl, rfl, szp_spec _ _ _⟩

/-- The flags of an inclusive or (R600). -/
theorem or8_spec (a b : Byte) : (or8 a b).value = a ||| b ∧ LogicLeaves (a ||| b) (or8 a b).flags :=
  ⟨rfl, rfl, rfl, szp_spec _ _ _⟩

/-- The flags of a comparison are those of the subtraction, and A is kept (R601). -/
theorem cmp8_spec (mode : AcSubMode) (a b : Byte) :
    (cmp8 mode a b).value = a ∧ SubLeaves mode a b false (sub8 mode a b false).value (cmp8 mode a b).flags :=
  ⟨rfl, sub8_spec mode a b false⟩

/-- The increment and its flags (R503). -/
theorem inr8_spec (x : Byte) (f : Flags) :
    (inr8 x f).value.toNat = (x.toNat + 1) % 256 ∧ ((inr8 x f).flags.ac = true ↔ x.toNat % 16 = 15) ∧
    SzpOf (inr8 x f).flags (inr8 x f).value ∧ (inr8 x f).flags.cy = f.cy :=
  ⟨by simp [inr8], decide_eq_true_iff, szp_spec _ _ _, rfl⟩

/-- The decrement and its flags, under both values of AC_SUB_MODE (R503). -/
theorem dcr8_spec (mode : AcSubMode) (x : Byte) (f : Flags) :
    ((dcr8 mode x f).value.toNat + 1) % 256 = x.toNat ∧
    (mode = .intel → ((dcr8 mode x f).flags.ac = true ↔ x.toNat % 16 ≠ 0)) ∧
    (mode = .borrow → ((dcr8 mode x f).flags.ac = true ↔ x.toNat % 16 = 0)) ∧
    SzpOf (dcr8 mode x f).flags (dcr8 mode x f).value ∧ (dcr8 mode x f).flags.cy = f.cy := by
  refine ⟨?_, ?_, ?_, szp_spec _ _ _, rfl⟩
  · have := x.isLt
    simp only [dcr8]
    bv_omega
  · rintro rfl
    exact decide_eq_true_iff
  · rintro rfl
    exact decide_eq_true_iff

/-- A double add and its carry (R532). -/
theorem dad16_spec (x y : Word) :
    (dad16 x y).1.toNat = (x.toNat + y.toNat) % 65536 ∧ ((dad16 x y).2 = true ↔ 65535 < x.toNat + y.toNat) :=
  ⟨by simp [dad16], decide_eq_true_iff⟩

/-- The condition that a conditional branch tests (R700). -/
theorem condHolds_iff (cc : Cond) (f : Flags) : condHolds cc f = true ↔ CondTrue cc f := by
  cases cc <;> simp [condHolds, CondTrue, condTest, Flags.get]

end Sys2Proof.Machine
end

