-- ==== Sys2Proof/Laws/PerInstr.lean ====
section
/-! SUPPORT. A statement made per instruction, about the instruction as syntax: its form names it, its code is as long as
R310 says, and it is well formed. -/

namespace Sys2Proof.Laws.FormShape

/-- The form of an instruction stands for that instruction, and its code has the instruction's length and is well formed. -/
def Statement (i : Instr) : Prop := i.form.instr = i ∧ (encode i).length = i.length ∧ i.wellFormed = true

/-! ## Data transfer (40_data_transfer.md) -/

theorem lxiB (v : Word) : Statement (.lxiB v) := ⟨rfl, rfl, rfl⟩
theorem staxB : Statement .staxB := ⟨rfl, rfl, rfl⟩
theorem mviB (v : Byte) : Statement (.mviB v) := ⟨rfl, rfl, rfl⟩
theorem ldaxB : Statement .ldaxB := ⟨rfl, rfl, rfl⟩
theorem mviC (v : Byte) : Statement (.mviC v) := ⟨rfl, rfl, rfl⟩
theorem lxiD (v : Word) : Statement (.lxiD v) := ⟨rfl, rfl, rfl⟩
theorem staxD : Statement .staxD := ⟨rfl, rfl, rfl⟩
theorem mviD (v : Byte) : Statement (.mviD v) := ⟨rfl, rfl, rfl⟩
theorem ldaxD : Statement .ldaxD := ⟨rfl, rfl, rfl⟩
theorem mviE (v : Byte) : Statement (.mviE v) := ⟨rfl, rfl, rfl⟩
theorem lxiH (v : Word) : Statement (.lxiH v) := ⟨rfl, rfl, rfl⟩
theorem shld (addr : Word) : Statement (.shld addr) := ⟨rfl, rfl, rfl⟩
theorem mviH (v : Byte) : Statement (.mviH v) := ⟨rfl, rfl, rfl⟩
theorem lhld (addr : Word) : Statement (.lhld addr) := ⟨rfl, rfl, rfl⟩
theorem mviL (v : Byte) : Statement (.mviL v) := ⟨rfl, rfl, rfl⟩
theorem lxiSp (v : Word) : Statement (.lxiSp v) := ⟨rfl, rfl, rfl⟩
theorem sta (addr : Word) : Statement (.sta addr) := ⟨rfl, rfl, rfl⟩
theorem mviM (v : Byte) : Statement (.mviM v) := ⟨rfl, rfl, rfl⟩
theorem lda (addr : Word) : Statement (.lda addr) := ⟨rfl, rfl, rfl⟩
theorem mviA (v : Byte) : Statement (.mviA v) := ⟨rfl, rfl, rfl⟩
theorem movBB : Statement .movBB := ⟨rfl, rfl, rfl⟩
theorem movBC : Statement .movBC := ⟨rfl, rfl, rfl⟩
theorem movBD : Statement .movBD := ⟨rfl, rfl, rfl⟩
theorem movBE : Statement .movBE := ⟨rfl, rfl, rfl⟩
theorem movBH : Statement .movBH := ⟨rfl, rfl, rfl⟩
theorem movBL : Statement .movBL := ⟨rfl, rfl, rfl⟩
theorem movBM : Statement .movBM := ⟨rfl, rfl, rfl⟩
theorem movBA : Statement .movBA := ⟨rfl, rfl, rfl⟩
theorem movCB : Statement .movCB := ⟨rfl, rfl, rfl⟩
theorem movCC : Statement .movCC := ⟨rfl, rfl, rfl⟩
theorem movCD : Statement .movCD := ⟨rfl, rfl, rfl⟩
theorem movCE : Statement .movCE := ⟨rfl, rfl, rfl⟩
theorem movCH : Statement .movCH := ⟨rfl, rfl, rfl⟩
theorem movCL : Statement .movCL := ⟨rfl, rfl, rfl⟩
theorem movCM : Statement .movCM := ⟨rfl, rfl, rfl⟩
theorem movCA : Statement .movCA := ⟨rfl, rfl, rfl⟩
theorem movDB : Statement .movDB := ⟨rfl, rfl, rfl⟩
theorem movDC : Statement .movDC := ⟨rfl, rfl, rfl⟩
theorem movDD : Statement .movDD := ⟨rfl, rfl, rfl⟩
theorem movDE : Statement .movDE := ⟨rfl, rfl, rfl⟩
theorem movDH : Statement .movDH := ⟨rfl, rfl, rfl⟩
theorem movDL : Statement .movDL := ⟨rfl, rfl, rfl⟩
theorem movDM : Statement .movDM := ⟨rfl, rfl, rfl⟩
theorem movDA : Statement .movDA := ⟨rfl, rfl, rfl⟩
theorem movEB : Statement .movEB := ⟨rfl, rfl, rfl⟩
theorem movEC : Statement .movEC := ⟨rfl, rfl, rfl⟩
theorem movED : Statement .movED := ⟨rfl, rfl, rfl⟩
theorem movEE : Statement .movEE := ⟨rfl, rfl, rfl⟩
theorem movEH : Statement .movEH := ⟨rfl, rfl, rfl⟩
theorem movEL : Statement .movEL := ⟨rfl, rfl, rfl⟩
theorem movEM : Statement .movEM := ⟨rfl, rfl, rfl⟩
theorem movEA : Statement .movEA := ⟨rfl, rfl, rfl⟩
theorem movHB : Statement .movHB := ⟨rfl, rfl, rfl⟩
theorem movHC : Statement .movHC := ⟨rfl, rfl, rfl⟩
theorem movHD : Statement .movHD := ⟨rfl, rfl, rfl⟩
theorem movHE : Statement .movHE := ⟨rfl, rfl, rfl⟩
theorem movHH : Statement .movHH := ⟨rfl, rfl, rfl⟩
theorem movHL : Statement .movHL := ⟨rfl, rfl, rfl⟩
theorem movHM : Statement .movHM := ⟨rfl, rfl, rfl⟩
theorem movHA : Statement .movHA := ⟨rfl, rfl, rfl⟩
theorem movLB : Statement .movLB := ⟨rfl, rfl, rfl⟩
theorem movLC : Statement .movLC := ⟨rfl, rfl, rfl⟩
theorem movLD : Statement .movLD := ⟨rfl, rfl, rfl⟩
theorem movLE : Statement .movLE := ⟨rfl, rfl, rfl⟩
theorem movLH : Statement .movLH := ⟨rfl, rfl, rfl⟩
theorem movLL : Statement .movLL := ⟨rfl, rfl, rfl⟩
theorem movLM : Statement .movLM := ⟨rfl, rfl, rfl⟩
theorem movLA : Statement .movLA := ⟨rfl, rfl, rfl⟩
theorem movMB : Statement .movMB := ⟨rfl, rfl, rfl⟩
theorem movMC : Statement .movMC := ⟨rfl, rfl, rfl⟩
theorem movMD : Statement .movMD := ⟨rfl, rfl, rfl⟩
theorem movME : Statement .movME := ⟨rfl, rfl, rfl⟩
theorem movMH : Statement .movMH := ⟨rfl, rfl, rfl⟩
theorem movML : Statement .movML := ⟨rfl, rfl, rfl⟩
theorem movMA : Statement .movMA := ⟨rfl, rfl, rfl⟩
theorem movAB : Statement .movAB := ⟨rfl, rfl, rfl⟩
theorem movAC : Statement .movAC := ⟨rfl, rfl, rfl⟩
theorem movAD : Statement .movAD := ⟨rfl, rfl, rfl⟩
theorem movAE : Statement .movAE := ⟨rfl, rfl, rfl⟩
theorem movAH : Statement .movAH := ⟨rfl, rfl, rfl⟩
theorem movAL : Statement .movAL := ⟨rfl, rfl, rfl⟩
theorem movAM : Statement .movAM := ⟨rfl, rfl, rfl⟩
theorem movAA : Statement .movAA := ⟨rfl, rfl, rfl⟩
theorem xchg : Statement .xchg := ⟨rfl, rfl, rfl⟩

/-! ## Arithmetic (41_arithmetic.md) -/

theorem inxB : Statement .inxB := ⟨rfl, rfl, rfl⟩
theorem inrB : Statement .inrB := ⟨rfl, rfl, rfl⟩
theorem dcrB : Statement .dcrB := ⟨rfl, rfl, rfl⟩
theorem dadB : Statement .dadB := ⟨rfl, rfl, rfl⟩
theorem dcxB : Statement .dcxB := ⟨rfl, rfl, rfl⟩
theorem inrC : Statement .inrC := ⟨rfl, rfl, rfl⟩
theorem dcrC : Statement .dcrC := ⟨rfl, rfl, rfl⟩
theorem inxD : Statement .inxD := ⟨rfl, rfl, rfl⟩
theorem inrD : Statement .inrD := ⟨rfl, rfl, rfl⟩
theorem dcrD : Statement .dcrD := ⟨rfl, rfl, rfl⟩
theorem dadD : Statement .dadD := ⟨rfl, rfl, rfl⟩
theorem dcxD : Statement .dcxD := ⟨rfl, rfl, rfl⟩
theorem inrE : Statement .inrE := ⟨rfl, rfl, rfl⟩
theorem dcrE : Statement .dcrE := ⟨rfl, rfl, rfl⟩
theorem inxH : Statement .inxH := ⟨rfl, rfl, rfl⟩
theorem inrH : Statement .inrH := ⟨rfl, rfl, rfl⟩
theorem dcrH : Statement .dcrH := ⟨rfl, rfl, rfl⟩
theorem daa : Statement .daa := ⟨rfl, rfl, rfl⟩
theorem dadH : Statement .dadH := ⟨rfl, rfl, rfl⟩
theorem dcxH : Statement .dcxH := ⟨rfl, rfl, rfl⟩
theorem inrL : Statement .inrL := ⟨rfl, rfl, rfl⟩
theorem dcrL : Statement .dcrL := ⟨rfl, rfl, rfl⟩
theorem inxSp : Statement .inxSp := ⟨rfl, rfl, rfl⟩
theorem inrM : Statement .inrM := ⟨rfl, rfl, rfl⟩
theorem dcrM : Statement .dcrM := ⟨rfl, rfl, rfl⟩
theorem dadSp : Statement .dadSp := ⟨rfl, rfl, rfl⟩
theorem dcxSp : Statement .dcxSp := ⟨rfl, rfl, rfl⟩
theorem inrA : Statement .inrA := ⟨rfl, rfl, rfl⟩
theorem dcrA : Statement .dcrA := ⟨rfl, rfl, rfl⟩
theorem addB : Statement .addB := ⟨rfl, rfl, rfl⟩
theorem addC : Statement .addC := ⟨rfl, rfl, rfl⟩
theorem addD : Statement .addD := ⟨rfl, rfl, rfl⟩
theorem addE : Statement .addE := ⟨rfl, rfl, rfl⟩
theorem addH : Statement .addH := ⟨rfl, rfl, rfl⟩
theorem addL : Statement .addL := ⟨rfl, rfl, rfl⟩
theorem addM : Statement .addM := ⟨rfl, rfl, rfl⟩
theorem addA : Statement .addA := ⟨rfl, rfl, rfl⟩
theorem adcB : Statement .adcB := ⟨rfl, rfl, rfl⟩
theorem adcC : Statement .adcC := ⟨rfl, rfl, rfl⟩
theorem adcD : Statement .adcD := ⟨rfl, rfl, rfl⟩
theorem adcE : Statement .adcE := ⟨rfl, rfl, rfl⟩
theorem adcH : Statement .adcH := ⟨rfl, rfl, rfl⟩
theorem adcL : Statement .adcL := ⟨rfl, rfl, rfl⟩
theorem adcM : Statement .adcM := ⟨rfl, rfl, rfl⟩
theorem adcA : Statement .adcA := ⟨rfl, rfl, rfl⟩
theorem subB : Statement .subB := ⟨rfl, rfl, rfl⟩
theorem subC : Statement .subC := ⟨rfl, rfl, rfl⟩
theorem subD : Statement .subD := ⟨rfl, rfl, rfl⟩
theorem subE : Statement .subE := ⟨rfl, rfl, rfl⟩
theorem subH : Statement .subH := ⟨rfl, rfl, rfl⟩
theorem subL : Statement .subL := ⟨rfl, rfl, rfl⟩
theorem subM : Statement .subM := ⟨rfl, rfl, rfl⟩
theorem subA : Statement .subA := ⟨rfl, rfl, rfl⟩
theorem sbbB : Statement .sbbB := ⟨rfl, rfl, rfl⟩
theorem sbbC : Statement .sbbC := ⟨rfl, rfl, rfl⟩
theorem sbbD : Statement .sbbD := ⟨rfl, rfl, rfl⟩
theorem sbbE : Statement .sbbE := ⟨rfl, rfl, rfl⟩
theorem sbbH : Statement .sbbH := ⟨rfl, rfl, rfl⟩
theorem sbbL : Statement .sbbL := ⟨rfl, rfl, rfl⟩
theorem sbbM : Statement .sbbM := ⟨rfl, rfl, rfl⟩
theorem sbbA : Statement .sbbA := ⟨rfl, rfl, rfl⟩
theorem adi (v : Byte) : Statement (.adi v) := ⟨rfl, rfl, rfl⟩
theorem aci (v : Byte) : Statement (.aci v) := ⟨rfl, rfl, rfl⟩
theorem sui (v : Byte) : Statement (.sui v) := ⟨rfl, rfl, rfl⟩
theorem sbi (v : Byte) : Statement (.sbi v) := ⟨rfl, rfl, rfl⟩

/-! ## Logical, compare, rotate and flag (42_logical.md) -/

theorem rlc : Statement .rlc := ⟨rfl, rfl, rfl⟩
theorem rrc : Statement .rrc := ⟨rfl, rfl, rfl⟩
theorem ral : Statement .ral := ⟨rfl, rfl, rfl⟩
theorem rar : Statement .rar := ⟨rfl, rfl, rfl⟩
theorem cma : Statement .cma := ⟨rfl, rfl, rfl⟩
theorem stc : Statement .stc := ⟨rfl, rfl, rfl⟩
theorem cmc : Statement .cmc := ⟨rfl, rfl, rfl⟩
theorem anaB : Statement .anaB := ⟨rfl, rfl, rfl⟩
theorem anaC : Statement .anaC := ⟨rfl, rfl, rfl⟩
theorem anaD : Statement .anaD := ⟨rfl, rfl, rfl⟩
theorem anaE : Statement .anaE := ⟨rfl, rfl, rfl⟩
theorem anaH : Statement .anaH := ⟨rfl, rfl, rfl⟩
theorem anaL : Statement .anaL := ⟨rfl, rfl, rfl⟩
theorem anaM : Statement .anaM := ⟨rfl, rfl, rfl⟩
theorem anaA : Statement .anaA := ⟨rfl, rfl, rfl⟩
theorem xraB : Statement .xraB := ⟨rfl, rfl, rfl⟩
theorem xraC : Statement .xraC := ⟨rfl, rfl, rfl⟩
theorem xraD : Statement .xraD := ⟨rfl, rfl, rfl⟩
theorem xraE : Statement .xraE := ⟨rfl, rfl, rfl⟩
theorem xraH : Statement .xraH := ⟨rfl, rfl, rfl⟩
theorem xraL : Statement .xraL := ⟨rfl, rfl, rfl⟩
theorem xraM : Statement .xraM := ⟨rfl, rfl, rfl⟩
theorem xraA : Statement .xraA := ⟨rfl, rfl, rfl⟩
theorem oraB : Statement .oraB := ⟨rfl, rfl, rfl⟩
theorem oraC : Statement .oraC := ⟨rfl, rfl, rfl⟩
theorem oraD : Statement .oraD := ⟨rfl, rfl, rfl⟩
theorem oraE : Statement .oraE := ⟨rfl, rfl, rfl⟩
theorem oraH : Statement .oraH := ⟨rfl, rfl, rfl⟩
theorem oraL : Statement .oraL := ⟨rfl, rfl, rfl⟩
theorem oraM : Statement .oraM := ⟨rfl, rfl, rfl⟩
theorem oraA : Statement .oraA := ⟨rfl, rfl, rfl⟩
theorem cmpB : Statement .cmpB := ⟨rfl, rfl, rfl⟩
theorem cmpC : Statement .cmpC := ⟨rfl, rfl, rfl⟩
theorem cmpD : Statement .cmpD := ⟨rfl, rfl, rfl⟩
theorem cmpE : Statement .cmpE := ⟨rfl, rfl, rfl⟩
theorem cmpH : Statement .cmpH := ⟨rfl, rfl, rfl⟩
theorem cmpL : Statement .cmpL := ⟨rfl, rfl, rfl⟩
theorem cmpM : Statement .cmpM := ⟨rfl, rfl, rfl⟩
theorem cmpA : Statement .cmpA := ⟨rfl, rfl, rfl⟩
theorem ani (v : Byte) : Statement (.ani v) := ⟨rfl, rfl, rfl⟩
theorem xri (v : Byte) : Statement (.xri v) := ⟨rfl, rfl, rfl⟩
theorem ori (v : Byte) : Statement (.ori v) := ⟨rfl, rfl, rfl⟩
theorem cpi (v : Byte) : Statement (.cpi v) := ⟨rfl, rfl, rfl⟩

/-! ## Branch, call, return and restart (43_branch.md) -/

theorem rnz : Statement .rnz := ⟨rfl, rfl, rfl⟩
theorem jnz (addr : Word) : Statement (.jnz addr) := ⟨rfl, rfl, rfl⟩
theorem jmp (addr : Word) : Statement (.jmp addr) := ⟨rfl, rfl, rfl⟩
theorem cnz (addr : Word) : Statement (.cnz addr) := ⟨rfl, rfl, rfl⟩
theorem rst0 : Statement .rst0 := ⟨rfl, rfl, rfl⟩
theorem rz : Statement .rz := ⟨rfl, rfl, rfl⟩
theorem ret : Statement .ret := ⟨rfl, rfl, rfl⟩
theorem jz (addr : Word) : Statement (.jz addr) := ⟨rfl, rfl, rfl⟩
theorem cz (addr : Word) : Statement (.cz addr) := ⟨rfl, rfl, rfl⟩
theorem call (addr : Word) : Statement (.call addr) := ⟨rfl, rfl, rfl⟩
theorem rst1 : Statement .rst1 := ⟨rfl, rfl, rfl⟩
theorem rnc : Statement .rnc := ⟨rfl, rfl, rfl⟩
theorem jnc (addr : Word) : Statement (.jnc addr) := ⟨rfl, rfl, rfl⟩
theorem cnc (addr : Word) : Statement (.cnc addr) := ⟨rfl, rfl, rfl⟩
theorem rst2 : Statement .rst2 := ⟨rfl, rfl, rfl⟩
theorem rc : Statement .rc := ⟨rfl, rfl, rfl⟩
theorem jc (addr : Word) : Statement (.jc addr) := ⟨rfl, rfl, rfl⟩
theorem cc (addr : Word) : Statement (.cc addr) := ⟨rfl, rfl, rfl⟩
theorem rst3 : Statement .rst3 := ⟨rfl, rfl, rfl⟩
theorem rpo : Statement .rpo := ⟨rfl, rfl, rfl⟩
theorem jpo (addr : Word) : Statement (.jpo addr) := ⟨rfl, rfl, rfl⟩
theorem cpo (addr : Word) : Statement (.cpo addr) := ⟨rfl, rfl, rfl⟩
theorem rst4 : Statement .rst4 := ⟨rfl, rfl, rfl⟩
theorem rpe : Statement .rpe := ⟨rfl, rfl, rfl⟩
theorem pchl : Statement .pchl := ⟨rfl, rfl, rfl⟩
theorem jpe (addr : Word) : Statement (.jpe addr) := ⟨rfl, rfl, rfl⟩
theorem cpe (addr : Word) : Statement (.cpe addr) := ⟨rfl, rfl, rfl⟩
theorem rst5 : Statement .rst5 := ⟨rfl, rfl, rfl⟩
theorem rp : Statement .rp := ⟨rfl, rfl, rfl⟩
theorem jp (addr : Word) : Statement (.jp addr) := ⟨rfl, rfl, rfl⟩
theorem cp (addr : Word) : Statement (.cp addr) := ⟨rfl, rfl, rfl⟩
theorem rst6 : Statement .rst6 := ⟨rfl, rfl, rfl⟩
theorem rm : Statement .rm := ⟨rfl, rfl, rfl⟩
theorem jm (addr : Word) : Statement (.jm addr) := ⟨rfl, rfl, rfl⟩
theorem cm (addr : Word) : Statement (.cm addr) := ⟨rfl, rfl, rfl⟩
theorem rst7 : Statement .rst7 := ⟨rfl, rfl, rfl⟩

/-! ## Stack, I/O and machine control (44_stack_io_machine.md) -/

theorem nop : Statement .nop := ⟨rfl, rfl, rfl⟩
theorem hlt : Statement .hlt := ⟨rfl, rfl, rfl⟩
theorem popB : Statement .popB := ⟨rfl, rfl, rfl⟩
theorem pushB : Statement .pushB := ⟨rfl, rfl, rfl⟩
theorem popD : Statement .popD := ⟨rfl, rfl, rfl⟩
theorem out (port : Byte) : Statement (.out port) := ⟨rfl, rfl, rfl⟩
theorem pushD : Statement .pushD := ⟨rfl, rfl, rfl⟩
theorem inp (port : Byte) : Statement (.inp port) := ⟨rfl, rfl, rfl⟩
theorem popH : Statement .popH := ⟨rfl, rfl, rfl⟩
theorem xthl : Statement .xthl := ⟨rfl, rfl, rfl⟩
theorem pushH : Statement .pushH := ⟨rfl, rfl, rfl⟩
theorem popPsw : Statement .popPsw := ⟨rfl, rfl, rfl⟩
theorem di : Statement .di := ⟨rfl, rfl, rfl⟩
theorem pushPsw : Statement .pushPsw := ⟨rfl, rfl, rfl⟩
theorem sphl : Statement .sphl := ⟨rfl, rfl, rfl⟩
theorem ei : Statement .ei := ⟨rfl, rfl, rfl⟩

end Sys2Proof.Laws.FormShape
end

