-- ==== Sys2Proof/Tests/Slice0.lean ====
section
/-! SUPPORT. Tests. The expected results are the spec's: its opcode map (30_encoding.md R320), its vectors and traces
(95_test_vectors.md), or its rules applied by hand. The last part shows, for each statement with hypotheses, a state and
operands that meet them. -/

namespace Sys2Proof.Machine

/-! ## Ill-formed code (30_encoding.md R300, R310) -/

theorem test_wellFormed_refuses_no_opcode : hasOpcode [] = false ∧ wellFormedCode [] = false := by decide

theorem test_wellFormed_refuses_missing_operand :
    hasOperands [0xC3, 0x00] = false ∧ wellFormedCode [0xC3, 0x00] = false := by decide

theorem test_wellFormed_refuses_trailing_byte :
    endsAtLast [0x76, 0x00] = false ∧ wellFormedCode [0x76, 0x00] = false := by decide

theorem test_wellFormed_accepts : wellFormedCode [0xC3, 0x34, 0x12] = true ∧ (Instr.jmp 0x1234).wellFormed = true := by
  decide

/-! ## Decoding (30_encoding.md R301 to R308, R320, R321)

Each theorem is one line of the opcode map of R320, with 34H and 12H as the bytes after the opcode. -/

/-- What the sixteen opcodes from `first` on decode to, followed by the bytes 34H and 12H. -/
def mapLine (first : Nat) : List Instr := (List.range 16).map fun n => decodeOp (BitVec.ofNat 8 (first + n)) 0x34 0x12

theorem test_decode_0x : mapLine 0x00 =
    [.nop, .lxiB 0x1234, .staxB, .inxB, .inrB, .dcrB, .mviB 0x34, .rlc, .nop, .dadB, .ldaxB, .dcxB, .inrC,
     .dcrC, .mviC 0x34, .rrc] := by decide

theorem test_decode_1x : mapLine 0x10 =
    [.nop, .lxiD 0x1234, .staxD, .inxD, .inrD, .dcrD, .mviD 0x34, .ral, .nop, .dadD, .ldaxD, .dcxD, .inrE,
     .dcrE, .mviE 0x34, .rar] := by decide

theorem test_decode_2x : mapLine 0x20 =
    [.nop, .lxiH 0x1234, .shld 0x1234, .inxH, .inrH, .dcrH, .mviH 0x34, .daa, .nop, .dadH, .lhld 0x1234, .dcxH,
     .inrL, .dcrL, .mviL 0x34, .cma] := by decide

theorem test_decode_3x : mapLine 0x30 =
    [.nop, .lxiSp 0x1234, .sta 0x1234, .inxSp, .inrM, .dcrM, .mviM 0x34, .stc, .nop, .dadSp, .lda 0x1234,
     .dcxSp, .inrA, .dcrA, .mviA 0x34, .cmc] := by decide

theorem test_decode_4x : mapLine 0x40 =
    [.movBB, .movBC, .movBD, .movBE, .movBH, .movBL, .movBM, .movBA, .movCB, .movCC, .movCD, .movCE, .movCH,
     .movCL, .movCM, .movCA] := by decide

theorem test_decode_5x : mapLine 0x50 =
    [.movDB, .movDC, .movDD, .movDE, .movDH, .movDL, .movDM, .movDA, .movEB, .movEC, .movED, .movEE, .movEH,
     .movEL, .movEM, .movEA] := by decide

theorem test_decode_6x : mapLine 0x60 =
    [.movHB, .movHC, .movHD, .movHE, .movHH, .movHL, .movHM, .movHA, .movLB, .movLC, .movLD, .movLE, .movLH,
     .movLL, .movLM, .movLA] := by decide

theorem test_decode_7x : mapLine 0x70 =
    [.movMB, .movMC, .movMD, .movME, .movMH, .movML, .hlt, .movMA, .movAB, .movAC, .movAD, .movAE, .movAH,
     .movAL, .movAM, .movAA] := by decide

theorem test_decode_8x : mapLine 0x80 =
    [.addB, .addC, .addD, .addE, .addH, .addL, .addM, .addA, .adcB, .adcC, .adcD, .adcE, .adcH, .adcL, .adcM,
     .adcA] := by decide

theorem test_decode_9x : mapLine 0x90 =
    [.subB, .subC, .subD, .subE, .subH, .subL, .subM, .subA, .sbbB, .sbbC, .sbbD, .sbbE, .sbbH, .sbbL, .sbbM,
     .sbbA] := by decide

theorem test_decode_Ax : mapLine 0xA0 =
    [.anaB, .anaC, .anaD, .anaE, .anaH, .anaL, .anaM, .anaA, .xraB, .xraC, .xraD, .xraE, .xraH, .xraL, .xraM,
     .xraA] := by decide

theorem test_decode_Bx : mapLine 0xB0 =
    [.oraB, .oraC, .oraD, .oraE, .oraH, .oraL, .oraM, .oraA, .cmpB, .cmpC, .cmpD, .cmpE, .cmpH, .cmpL, .cmpM,
     .cmpA] := by decide

theorem test_decode_Cx : mapLine 0xC0 =
    [.rnz, .popB, .jnz 0x1234, .jmp 0x1234, .cnz 0x1234, .pushB, .adi 0x34, .rst0, .rz, .ret, .jz 0x1234,
     .jmp 0x1234, .cz 0x1234, .call 0x1234, .aci 0x34, .rst1] := by decide

theorem test_decode_Dx : mapLine 0xD0 =
    [.rnc, .popD, .jnc 0x1234, .out 0x34, .cnc 0x1234, .pushD, .sui 0x34, .rst2, .rc, .ret, .jc 0x1234,
     .inp 0x34, .cc 0x1234, .call 0x1234, .sbi 0x34, .rst3] := by decide

theorem test_decode_Ex : mapLine 0xE0 =
    [.rpo, .popH, .jpo 0x1234, .xthl, .cpo 0x1234, .pushH, .ani 0x34, .rst4, .rpe, .pchl, .jpe 0x1234, .xchg,
     .cpe 0x1234, .call 0x1234, .xri 0x34, .rst5] := by decide

theorem test_decode_Fx : mapLine 0xF0 =
    [.rp, .popPsw, .jp 0x1234, .di, .cp 0x1234, .pushPsw, .ori 0x34, .rst6, .rm, .sphl, .jm 0x1234, .ei,
     .cm 0x1234, .call 0x1234, .cpi 0x34, .rst7] := by decide

/-- Words written out from the formats of R302: MOV d,s is 01 DDD SSS, DAD is 00 RP 1 001, Jcc is 11 CCC 010, RST n is
11 NNN 111. -/
theorem test_decode_formats :
    decode [0b01_111_110] = .ok (.movAM, []) ∧ decode [0b00_10_1_001] = .ok (.dadH, []) ∧
    decode [0b11_001_010, 0x00, 0x20] = .ok (.jz 0x2000, []) ∧ decode [0b11_101_111] = .ok (.rst5, []) :=
  ⟨rfl, rfl, rfl, rfl⟩

/-- Encoding takes the formats back (R302, R303, R308). -/
theorem test_encode_formats :
    encode .movAM = [0b01_111_110] ∧ encode (.lxiSp 0x1234) = [0b00_11_0_001, 0x34, 0x12] ∧
    encode (.cpe 0x2000) = [0b11_101_100, 0x00, 0x20] ∧ encode .popPsw = [0b11_11_0_001] := by decide

/-- A row's word of spec/opcode_table.json: LXI SP has opcode 31H, and its operand word is 0. -/
theorem test_decodeTableWord : decodeTableWord 24 0x31 = some (.lxiSp 0) ∧ decodeTableWord 8 0x76 = some .hlt := by decide

/-! ## One step (95_test_vectors.md, part 2) -/

/-- A state at the reset values but for the arguments, `f` being the packed flags, with cells placed in memory. -/
def start (regs : Regs) (sp pc : Word) (f : Byte) (cells : List (Word × Byte)) (inte : Bool := false)
    (params : Params := defaultParams) : State :=
  { State.reset with
    regs := regs, sp := sp, pc := pc, flags := .unpack f, inte := inte, params := params,
    mem := Memory.applyWrites [] cells }

/-- What a test looks at. -/
inductive Look where
  | reg (r : Reg8)
  | f
  | at (a : Word)

/-- The byte that a look finds. -/
def Look.byte (s : State) (x : Look) : Byte :=
  match x with
  | .reg r => s.getReg r
  | .f => s.flags.pack
  | .at a => s.readByte a

/-- After one step: what the step returned, SP, PC, and what the looks find. -/
def after (s : State) (looks : List Look) : Option (StepResult × Word × Word × List Byte) :=
  match step s with
  | .next t => some (stepResult s, t.sp, t.pc, looks.map (Look.byte t))
  | .fault _ => none
  | .refused _ => none

/-! ### Data transfer (40_data_transfer.md) -/

/-- V40-1 (R400): MOV B,C. -/
theorem test_v40_1_mov :
    after (start ⟨0x00, 0x00, 0x5A, 0x00, 0x00, 0x00, 0x00⟩ 0x0000 0x0000 0x02 [(0x0000, 0x41)])
      [.reg .a, .reg .b, .f] =
      some (.ok .movBC 5, 0x0000, 0x0001, [0x00, 0x5A, 0x02]) := by decide

/-- V40-3 (R401): MOV A,M. -/
theorem test_v40_3_mov :
    after (start ⟨0x00, 0x00, 0x00, 0x00, 0x00, 0x20, 0x00⟩ 0x0000 0x0000 0x02 [(0x0000, 0x7E), (0x2000, 0x99)])
      [.reg .a, .f] =
      some (.ok .movAM 7, 0x0000, 0x0001, [0x99, 0x02]) := by decide

/-- V40-5 (R402): MOV M,L. -/
theorem test_v40_5_mov :
    after (start ⟨0x00, 0x00, 0x00, 0x00, 0x00, 0x20, 0x40⟩ 0x0000 0x0000 0x02 [(0x0000, 0x75)])
      [.reg .a, .f, .at 0x2040] =
      some (.ok .movML 7, 0x0000, 0x0001, [0x00, 0x02, 0x40]) := by decide

/-- V40-7 (R403): MVI A,42H. -/
theorem test_v40_7_mvi :
    after (start ⟨0x00, 0x00, 0x00, 0x00, 0x00, 0x00, 0x00⟩ 0x0000 0xFFFF 0x02 [(0xFFFF, 0x3E), (0x0000, 0x42)])
      [.reg .a, .f] =
      some (.ok (.mviA 0x42) 7, 0x0000, 0x0001, [0x42, 0x02]) := by decide

/-- V40-8 (R404): MVI M,A5H. -/
theorem test_v40_8_mvi :
    after (start ⟨0x00, 0x00, 0x00, 0x00, 0x00, 0x12, 0x34⟩ 0x0000 0x0000 0x02 [(0x0000, 0x36), (0x0001, 0xA5)])
      [.reg .a, .f, .at 0x1234] =
      some (.ok (.mviM 0xA5) 10, 0x0000, 0x0002, [0x00, 0x02, 0xA5]) := by decide

/-- V40-9 (R405): LXI SP,1234H. -/
theorem test_v40_9_lxi :
    after (start ⟨0x00, 0x00, 0x00, 0x00, 0x00, 0x00, 0x00⟩ 0x0000 0x0000 0x02
      [(0x0000, 0x31), (0x0001, 0x34), (0x0002, 0x12)])
      [.reg .a, .f] =
      some (.ok (.lxiSp 0x1234) 10, 0x1234, 0x0003, [0x00, 0x02]) := by decide

/-- V40-11 (R406): LDA 3000H. -/
theorem test_v40_11_lda :
    after (start ⟨0x00, 0x00, 0x00, 0x00, 0x00, 0x00, 0x00⟩ 0x0000 0x0000 0x02
      [(0x0000, 0x3A), (0x0001, 0x00), (0x0002, 0x30), (0x3000, 0x7F)])
      [.reg .a, .f] =
      some (.ok (.lda 0x3000) 13, 0x0000, 0x0003, [0x7F, 0x02]) := by decide

/-- V40-12 (R407): STA FFFFH. -/
theorem test_v40_12_sta :
    after (start ⟨0x11, 0x00, 0x00, 0x00, 0x00, 0x00, 0x00⟩ 0x0000 0x0000 0x02
      [(0x0000, 0x32), (0x0001, 0xFF), (0x0002, 0xFF)])
      [.reg .a, .f, .at 0xFFFF] =
      some (.ok (.sta 0xFFFF) 13, 0x0000, 0x0003, [0x11, 0x02, 0x11]) := by decide

/-- V40-14 (R408): LHLD FFFFH. -/
theorem test_v40_14_lhld :
    after (start ⟨0x00, 0x00, 0x00, 0x00, 0x00, 0x00, 0x00⟩ 0x0000 0x0100 0x02
      [(0x0100, 0x2A), (0x0101, 0xFF), (0x0102, 0xFF), (0xFFFF, 0xCD), (0x0000, 0xAB)])
      [.reg .a, .reg .h, .reg .l, .f] =
      some (.ok (.lhld 0xFFFF) 16, 0x0000, 0x0103, [0x00, 0xAB, 0xCD, 0x02]) := by decide

/-- V40-15 (R409): SHLD FFFFH. -/
theorem test_v40_15_shld :
    after (start ⟨0x00, 0x00, 0x00, 0x00, 0x00, 0xBE, 0xEF⟩ 0x0000 0x0100 0x02
      [(0x0100, 0x22), (0x0101, 0xFF), (0x0102, 0xFF)])
      [.reg .a, .f, .at 0x0000, .at 0xFFFF] =
      some (.ok (.shld 0xFFFF) 16, 0x0000, 0x0103, [0x00, 0x02, 0xBE, 0xEF]) := by decide

/-- V40-16 (R410): LDAX B. -/
theorem test_v40_16_ldax :
    after (start ⟨0x00, 0x40, 0x00, 0x00, 0x00, 0x00, 0x00⟩ 0x0000 0x0000 0x02 [(0x0000, 0x0A), (0x4000, 0x5E)])
      [.reg .a, .f] =
      some (.ok .ldaxB 7, 0x0000, 0x0001, [0x5E, 0x02]) := by decide

/-- V40-19 (R411): STAX D. -/
theorem test_v40_19_stax :
    after (start ⟨0x89, 0x00, 0x00, 0x00, 0x00, 0x00, 0x00⟩ 0x0000 0x0000 0x02 [(0x0000, 0x12)])
      [.reg .a, .f, .at 0x0000] =
      some (.ok .staxD 7, 0x0000, 0x0001, [0x89, 0x02, 0x89]) := by decide

/-- V40-20 (R412): XCHG. -/
theorem test_v40_20_xchg :
    after (start ⟨0x00, 0x00, 0x00, 0x12, 0x34, 0xAB, 0xCD⟩ 0x0000 0x0000 0x03 [(0x0000, 0xEB)])
      [.reg .a, .reg .d, .reg .e, .reg .h, .reg .l, .f] =
      some (.ok .xchg 4, 0x0000, 0x0001, [0x00, 0xAB, 0xCD, 0x12, 0x34, 0x03]) := by decide

/-! ### Arithmetic (41_arithmetic.md) -/

/-- V41-2 (R510): ADD C. -/
theorem test_v41_2_add :
    after (start ⟨0xFF, 0x00, 0x01, 0x00, 0x00, 0x00, 0x00⟩ 0x0000 0x0000 0x02 [(0x0000, 0x81)])
      [.reg .a, .f] =
      some (.ok .addC 4, 0x0000, 0x0001, [0x00, 0x57]) := by decide

/-- V41-5 (R511): ADD M. -/
theorem test_v41_5_add :
    after (start ⟨0x10, 0x00, 0x00, 0x00, 0x00, 0x20, 0x00⟩ 0x0000 0x0000 0x02 [(0x0000, 0x86), (0x2000, 0x0F)])
      [.reg .a, .f] =
      some (.ok .addM 7, 0x0000, 0x0001, [0x1F, 0x02]) := by decide

/-- V41-6 (R512): ADI 7FH. -/
theorem test_v41_6_adi :
    after (start ⟨0x01, 0x00, 0x00, 0x00, 0x00, 0x00, 0x00⟩ 0x0000 0x0000 0x02 [(0x0000, 0xC6), (0x0001, 0x7F)])
      [.reg .a, .f] =
      some (.ok (.adi 0x7F) 7, 0x0000, 0x0002, [0x80, 0x92]) := by decide

/-- V41-7 (R513): ADC B. -/
theorem test_v41_7_adc :
    after (start ⟨0x0F, 0x00, 0x00, 0x00, 0x00, 0x00, 0x00⟩ 0x0000 0x0000 0x03 [(0x0000, 0x88)])
      [.reg .a, .f] =
      some (.ok .adcB 4, 0x0000, 0x0001, [0x10, 0x12]) := by decide

/-- V41-9 (R514): ADC M. -/
theorem test_v41_9_adc :
    after (start ⟨0x3D, 0x00, 0x00, 0x00, 0x00, 0x20, 0x00⟩ 0x0000 0x0000 0x03 [(0x0000, 0x8E), (0x2000, 0x42)])
      [.reg .a, .f] =
      some (.ok .adcM 7, 0x0000, 0x0001, [0x80, 0x92]) := by decide

/-- V41-10 (R515): ACI FFH. -/
theorem test_v41_10_aci :
    after (start ⟨0x00, 0x00, 0x00, 0x00, 0x00, 0x00, 0x00⟩ 0x0000 0x0000 0x03 [(0x0000, 0xCE), (0x0001, 0xFF)])
      [.reg .a, .f] =
      some (.ok (.aci 0xFF) 7, 0x0000, 0x0002, [0x00, 0x57]) := by decide

/-- V41-11 (R516): SUB A. -/
theorem test_v41_11_sub :
    after (start ⟨0x3E, 0x00, 0x00, 0x00, 0x00, 0x00, 0x00⟩ 0x0000 0x0000 0x02 [(0x0000, 0x97)])
      [.reg .a, .f] =
      some (.ok .subA 4, 0x0000, 0x0001, [0x00, 0x56]) := by decide

/-- V41-12 (R516): SUB A under AC_SUB_MODE = borrow. -/
theorem test_v41_12_sub :
    after (start ⟨0x3E, 0x00, 0x00, 0x00, 0x00, 0x00, 0x00⟩ 0x0000 0x0000 0x02
      [(0x0000, 0x97)] (params := { defaultParams with acSub := .borrow }))
      [.reg .a, .f] =
      some (.ok .subA 4, 0x0000, 0x0001, [0x00, 0x46]) := by decide

/-- V41-13 (R516): SUB B. -/
theorem test_v41_13_sub :
    after (start ⟨0x05, 0x06, 0x00, 0x00, 0x00, 0x00, 0x00⟩ 0x0000 0x0000 0x02 [(0x0000, 0x90)])
      [.reg .a, .f] =
      some (.ok .subB 4, 0x0000, 0x0001, [0xFF, 0x87]) := by decide

/-- V41-15 (R516): SUB C under AC_SUB_MODE = borrow. -/
theorem test_v41_15_sub :
    after (start ⟨0x10, 0x00, 0x01, 0x00, 0x00, 0x00, 0x00⟩ 0x0000 0x0000 0x02
      [(0x0000, 0x91)] (params := { defaultParams with acSub := .borrow }))
      [.reg .a, .f] =
      some (.ok .subC 4, 0x0000, 0x0001, [0x0F, 0x16]) := by decide

/-- V41-17 (R518): SUI 01H. -/
theorem test_v41_17_sui :
    after (start ⟨0x00, 0x00, 0x00, 0x00, 0x00, 0x00, 0x00⟩ 0x0000 0x0000 0x02 [(0x0000, 0xD6), (0x0001, 0x01)])
      [.reg .a, .f] =
      some (.ok (.sui 0x1) 7, 0x0000, 0x0002, [0xFF, 0x87]) := by decide

/-- V41-19 (R519): SBB C. -/
theorem test_v41_19_sbb :
    after (start ⟨0x00, 0x00, 0xFF, 0x00, 0x00, 0x00, 0x00⟩ 0x0000 0x0000 0x03 [(0x0000, 0x99)])
      [.reg .a, .f] =
      some (.ok .sbbC 4, 0x0000, 0x0001, [0x00, 0x47]) := by decide

/-- V41-20 (R520): SBB M. -/
theorem test_v41_20_sbb :
    after (start ⟨0x50, 0x00, 0x00, 0x00, 0x00, 0x20, 0x00⟩ 0x0000 0x0000 0x03 [(0x0000, 0x9E), (0x2000, 0x50)])
      [.reg .a, .f] =
      some (.ok .sbbM 7, 0x0000, 0x0001, [0xFF, 0x87]) := by decide

/-- V41-21 (R521): SBI 00H. -/
theorem test_v41_21_sbi :
    after (start ⟨0x00, 0x00, 0x00, 0x00, 0x00, 0x00, 0x00⟩ 0x0000 0x0000 0x03 [(0x0000, 0xDE), (0x0001, 0x00)])
      [.reg .a, .f] =
      some (.ok (.sbi 0x0) 7, 0x0000, 0x0002, [0xFF, 0x87]) := by decide

/-- V41-22 (R522): INR B. -/
theorem test_v41_22_inr :
    after (start ⟨0x00, 0xFF, 0x00, 0x00, 0x00, 0x00, 0x00⟩ 0x0000 0x0000 0x03 [(0x0000, 0x04)])
      [.reg .a, .reg .b, .f] =
      some (.ok .inrB 5, 0x0000, 0x0001, [0x00, 0x00, 0x57]) := by decide

/-- V41-25 (R523): INR M. -/
theorem test_v41_25_inr :
    after (start ⟨0x00, 0x00, 0x00, 0x00, 0x00, 0x20, 0x00⟩ 0x0000 0x0000 0x02 [(0x0000, 0x34), (0x2000, 0xFF)])
      [.reg .a, .f, .at 0x2000] =
      some (.ok .inrM 10, 0x0000, 0x0001, [0x00, 0x56, 0x00]) := by decide

/-- V41-26 (R524): DCR B. -/
theorem test_v41_26_dcr :
    after (start ⟨0x00, 0x00, 0x00, 0x00, 0x00, 0x00, 0x00⟩ 0x0000 0x0000 0x02 [(0x0000, 0x05)])
      [.reg .a, .reg .b, .f] =
      some (.ok .dcrB 5, 0x0000, 0x0001, [0x00, 0xFF, 0x86]) := by decide

/-- V41-27 (R524): DCR B under AC_SUB_MODE = borrow. -/
theorem test_v41_27_dcr :
    after (start ⟨0x00, 0x00, 0x00, 0x00, 0x00, 0x00, 0x00⟩ 0x0000 0x0000 0x02
      [(0x0000, 0x05)] (params := { defaultParams with acSub := .borrow }))
      [.reg .a, .reg .b, .f] =
      some (.ok .dcrB 5, 0x0000, 0x0001, [0x00, 0xFF, 0x96]) := by decide

/-- V41-30 (R525): DCR M. -/
theorem test_v41_30_dcr :
    after (start ⟨0x00, 0x00, 0x00, 0x00, 0x00, 0x20, 0x00⟩ 0x0000 0x0000 0x02 [(0x0000, 0x35), (0x2000, 0x80)])
      [.reg .a, .f, .at 0x2000] =
      some (.ok .dcrM 10, 0x0000, 0x0001, [0x00, 0x02, 0x7F]) := by decide

/-- V41-32 (R530): INX SP. -/
theorem test_v41_32_inx :
    after (start ⟨0x00, 0x00, 0x00, 0x00, 0x00, 0x00, 0x00⟩ 0xFFFF 0x0000 0x42 [(0x0000, 0x33)])
      [.reg .a, .f] =
      some (.ok .inxSp 5, 0x0000, 0x0001, [0x00, 0x42]) := by decide

/-- V41-33 (R531): DCX B. -/
theorem test_v41_33_dcx :
    after (start ⟨0x00, 0x00, 0x00, 0x00, 0x00, 0x00, 0x00⟩ 0x0000 0x0000 0x02 [(0x0000, 0x0B)])
      [.reg .a, .reg .b, .reg .c, .f] =
      some (.ok .dcxB 5, 0x0000, 0x0001, [0x00, 0xFF, 0xFF, 0x02]) := by decide

/-- V41-36 (R532): DAD D. -/
theorem test_v41_36_dad :
    after (start ⟨0x00, 0x00, 0x00, 0x00, 0x01, 0xFF, 0xFF⟩ 0x0000 0x0000 0x82 [(0x0000, 0x19)])
      [.reg .a, .reg .h, .reg .l, .f] =
      some (.ok .dadD 10, 0x0000, 0x0001, [0x00, 0x00, 0x00, 0x83]) := by decide

/-- V41-38 (R532): DAD SP. -/
theorem test_v41_38_dad :
    after (start ⟨0x00, 0x00, 0x00, 0x00, 0x00, 0x00, 0x01⟩ 0xFFFE 0x0000 0x02 [(0x0000, 0x39)])
      [.reg .a, .reg .h, .reg .l, .f] =
      some (.ok .dadSp 10, 0xFFFE, 0x0001, [0x00, 0xFF, 0xFF, 0x02]) := by decide

/-- V41-39 (R540): DAA. -/
theorem test_v41_39_daa :
    after (start ⟨0x9A, 0x00, 0x00, 0x00, 0x00, 0x00, 0x00⟩ 0x0000 0x0000 0x02 [(0x0000, 0x27)])
      [.reg .a, .f] =
      some (.ok .daa 4, 0x0000, 0x0001, [0x00, 0x57]) := by decide

/-- V41-40 (R540): DAA. -/
theorem test_v41_40_daa :
    after (start ⟨0xFA, 0x00, 0x00, 0x00, 0x00, 0x00, 0x00⟩ 0x0000 0x0000 0x02 [(0x0000, 0x27)])
      [.reg .a, .f] =
      some (.ok .daa 4, 0x0000, 0x0001, [0x60, 0x17]) := by decide

/-- V41-41 (R540): DAA. -/
theorem test_v41_41_daa :
    after (start ⟨0x00, 0x00, 0x00, 0x00, 0x00, 0x00, 0x00⟩ 0x0000 0x0000 0x12 [(0x0000, 0x27)])
      [.reg .a, .f] =
      some (.ok .daa 4, 0x0000, 0x0001, [0x06, 0x06]) := by decide

/-- V41-42 (R540): DAA. -/
theorem test_v41_42_daa :
    after (start ⟨0x15, 0x00, 0x00, 0x00, 0x00, 0x00, 0x00⟩ 0x0000 0x0000 0x03 [(0x0000, 0x27)])
      [.reg .a, .f] =
      some (.ok .daa 4, 0x0000, 0x0001, [0x75, 0x03]) := by decide

/-! ### Logical, compare, rotate and flag instructions (42_logical.md) -/

/-- V42-1 (R610): ANA B. -/
theorem test_v42_1_ana :
    after (start ⟨0xFC, 0x0F, 0x00, 0x00, 0x00, 0x00, 0x00⟩ 0x0000 0x0000 0x03 [(0x0000, 0xA0)])
      [.reg .a, .f] =
      some (.ok .anaB 4, 0x0000, 0x0001, [0x0C, 0x16]) := by decide

/-- V42-2 (R610): ANA B under AC_AND_MODE = clear. -/
theorem test_v42_2_ana :
    after (start ⟨0xFC, 0x0F, 0x00, 0x00, 0x00, 0x00, 0x00⟩ 0x0000 0x0000 0x03
      [(0x0000, 0xA0)] (params := { defaultParams with acAnd := .clear }))
      [.reg .a, .f] =
      some (.ok .anaB 4, 0x0000, 0x0001, [0x0C, 0x06]) := by decide

/-- V42-4 (R611): ANA M. -/
theorem test_v42_4_ana :
    after (start ⟨0xF0, 0x00, 0x00, 0x00, 0x00, 0x20, 0x00⟩ 0x0000 0x0000 0x02 [(0x0000, 0xA6), (0x2000, 0x0F)])
      [.reg .a, .f] =
      some (.ok .anaM 7, 0x0000, 0x0001, [0x00, 0x56]) := by decide

/-- V42-6 (R612): ANI 00H. -/
theorem test_v42_6_ani :
    after (start ⟨0x32, 0x00, 0x00, 0x00, 0x00, 0x00, 0x00⟩ 0x0000 0x0000 0x02 [(0x0000, 0xE6), (0x0001, 0x00)])
      [.reg .a, .f] =
      some (.ok (.ani 0x0) 7, 0x0000, 0x0002, [0x00, 0x46]) := by decide

/-- V42-8 (R613): XRA A. -/
theorem test_v42_8_xra :
    after (start ⟨0x9D, 0x00, 0x00, 0x00, 0x00, 0x00, 0x00⟩ 0x0000 0x0000 0x13 [(0x0000, 0xAF)])
      [.reg .a, .f] =
      some (.ok .xraA 4, 0x0000, 0x0001, [0x00, 0x46]) := by decide

/-- V42-9 (R614): XRA M. -/
theorem test_v42_9_xra :
    after (start ⟨0xFF, 0x00, 0x00, 0x00, 0x00, 0x20, 0x00⟩ 0x0000 0x0000 0x02 [(0x0000, 0xAE), (0x2000, 0x0F)])
      [.reg .a, .f] =
      some (.ok .xraM 7, 0x0000, 0x0001, [0xF0, 0x86]) := by decide

/-- V42-10 (R615): XRI 81H. -/
theorem test_v42_10_xri :
    after (start ⟨0x3B, 0x00, 0x00, 0x00, 0x00, 0x00, 0x00⟩ 0x0000 0x0000 0x02 [(0x0000, 0xEE), (0x0001, 0x81)])
      [.reg .a, .f] =
      some (.ok (.xri 0x81) 7, 0x0000, 0x0002, [0xBA, 0x82]) := by decide

/-- V42-11 (R616): ORA C. -/
theorem test_v42_11_ora :
    after (start ⟨0x33, 0x00, 0x0F, 0x00, 0x00, 0x00, 0x00⟩ 0x0000 0x0000 0x13 [(0x0000, 0xB1)])
      [.reg .a, .f] =
      some (.ok .oraC 4, 0x0000, 0x0001, [0x3F, 0x06]) := by decide

/-- V42-12 (R617): ORA M. -/
theorem test_v42_12_ora :
    after (start ⟨0x00, 0x00, 0x00, 0x00, 0x00, 0x20, 0x00⟩ 0x0000 0x0000 0x02 [(0x0000, 0xB6), (0x2000, 0x00)])
      [.reg .a, .f] =
      some (.ok .oraM 7, 0x0000, 0x0001, [0x00, 0x46]) := by decide

/-- V42-13 (R618): ORI 80H. -/
theorem test_v42_13_ori :
    after (start ⟨0x01, 0x00, 0x00, 0x00, 0x00, 0x00, 0x00⟩ 0x0000 0x0000 0x02 [(0x0000, 0xF6), (0x0001, 0x80)])
      [.reg .a, .f] =
      some (.ok (.ori 0x80) 7, 0x0000, 0x0002, [0x81, 0x86]) := by decide

/-- V42-14 (R619): CMP E. -/
theorem test_v42_14_cmp :
    after (start ⟨0x0A, 0x00, 0x00, 0x00, 0x05, 0x00, 0x00⟩ 0x0000 0x0000 0x02 [(0x0000, 0xBB)])
      [.reg .a, .f] =
      some (.ok .cmpE 4, 0x0000, 0x0001, [0x0A, 0x16]) := by decide

/-- V42-17 (R619): CMP A under AC_SUB_MODE = borrow. -/
theorem test_v42_17_cmp :
    after (start ⟨0x77, 0x00, 0x00, 0x00, 0x00, 0x00, 0x00⟩ 0x0000 0x0000 0x02
      [(0x0000, 0xBF)] (params := { defaultParams with acSub := .borrow }))
      [.reg .a, .f] =
      some (.ok .cmpA 4, 0x0000, 0x0001, [0x77, 0x46]) := by decide

/-- V42-18 (R620): CMP M. -/
theorem test_v42_18_cmp :
    after (start ⟨0x42, 0x00, 0x00, 0x00, 0x00, 0x20, 0x00⟩ 0x0000 0x0000 0x02 [(0x0000, 0xBE), (0x2000, 0x42)])
      [.reg .a, .f] =
      some (.ok .cmpM 7, 0x0000, 0x0001, [0x42, 0x56]) := by decide

/-- V42-20 (R621): CPI 01H. -/
theorem test_v42_20_cpi :
    after (start ⟨0x80, 0x00, 0x00, 0x00, 0x00, 0x00, 0x00⟩ 0x0000 0x0000 0x02 [(0x0000, 0xFE), (0x0001, 0x01)])
      [.reg .a, .f] =
      some (.ok (.cpi 0x1) 7, 0x0000, 0x0002, [0x80, 0x02]) := by decide

/-- V42-22 (R630): RLC. -/
theorem test_v42_22_rlc :
    after (start ⟨0x80, 0x00, 0x00, 0x00, 0x00, 0x00, 0x00⟩ 0x0000 0x0000 0xD6 [(0x0000, 0x07)])
      [.reg .a, .f] =
      some (.ok .rlc 4, 0x0000, 0x0001, [0x01, 0xD7]) := by decide

/-- V42-23 (R631): RRC. -/
theorem test_v42_23_rrc :
    after (start ⟨0xF2, 0x00, 0x00, 0x00, 0x00, 0x00, 0x00⟩ 0x0000 0x0000 0x03 [(0x0000, 0x0F)])
      [.reg .a, .f] =
      some (.ok .rrc 4, 0x0000, 0x0001, [0x79, 0x02]) := by decide

/-- V42-25 (R632): RAL. -/
theorem test_v42_25_ral :
    after (start ⟨0xB5, 0x00, 0x00, 0x00, 0x00, 0x00, 0x00⟩ 0x0000 0x0000 0x02 [(0x0000, 0x17)])
      [.reg .a, .f] =
      some (.ok .ral 4, 0x0000, 0x0001, [0x6A, 0x03]) := by decide

/-- V42-27 (R633): RAR. -/
theorem test_v42_27_rar :
    after (start ⟨0x6A, 0x00, 0x00, 0x00, 0x00, 0x00, 0x00⟩ 0x0000 0x0000 0x03 [(0x0000, 0x1F)])
      [.reg .a, .f] =
      some (.ok .rar 4, 0x0000, 0x0001, [0xB5, 0x02]) := by decide

/-- V42-29 (R640): CMA. -/
theorem test_v42_29_cma :
    after (start ⟨0x51, 0x00, 0x00, 0x00, 0x00, 0x00, 0x00⟩ 0x0000 0x0000 0x42 [(0x0000, 0x2F)])
      [.reg .a, .f] =
      some (.ok .cma 4, 0x0000, 0x0001, [0xAE, 0x42]) := by decide

/-- V42-31 (R641): CMC. -/
theorem test_v42_31_cmc :
    after (start ⟨0x00, 0x00, 0x00, 0x00, 0x00, 0x00, 0x00⟩ 0x0000 0x0000 0x13 [(0x0000, 0x3F)])
      [.reg .a, .f] =
      some (.ok .cmc 4, 0x0000, 0x0001, [0x00, 0x12]) := by decide

/-- V42-32 (R642): STC. -/
theorem test_v42_32_stc :
    after (start ⟨0x00, 0x00, 0x00, 0x00, 0x00, 0x00, 0x00⟩ 0x0000 0x0000 0x02 [(0x0000, 0x37)])
      [.reg .a, .f] =
      some (.ok .stc 4, 0x0000, 0x0001, [0x00, 0x03]) := by decide

/-! ### Branch (43_branch.md) -/

/-- V43-2 (R701): JMP 1234H. -/
theorem test_v43_2_jmp :
    after (start ⟨0x00, 0x00, 0x00, 0x00, 0x00, 0x00, 0x00⟩ 0x0000 0x0000 0x02
      [(0x0000, 0xCB), (0x0001, 0x34), (0x0002, 0x12)])
      [.reg .a, .f] =
      some (.ok (.jmp 0x1234) 10, 0x0000, 0x1234, [0x00, 0x02]) := by decide

/-- V43-3 (R702): JZ 2000H. -/
theorem test_v43_3_jz :
    after (start ⟨0x00, 0x00, 0x00, 0x00, 0x00, 0x00, 0x00⟩ 0x0000 0x0100 0x42
      [(0x0100, 0xCA), (0x0101, 0x00), (0x0102, 0x20)])
      [.reg .a, .f] =
      some (.ok (.jz 0x2000) 10, 0x0000, 0x2000, [0x00, 0x42]) := by decide

/-- V43-4 (R702): JZ 2000H. -/
theorem test_v43_4_jz :
    after (start ⟨0x00, 0x00, 0x00, 0x00, 0x00, 0x00, 0x00⟩ 0x0000 0x0100 0x02
      [(0x0100, 0xCA), (0x0101, 0x00), (0x0102, 0x20)])
      [.reg .a, .f] =
      some (.ok (.jz 0x2000) 10, 0x0000, 0x0103, [0x00, 0x02]) := by decide

/-- V43-6 (R702): JNC 2000H. -/
theorem test_v43_6_jnc :
    after (start ⟨0x00, 0x00, 0x00, 0x00, 0x00, 0x00, 0x00⟩ 0x0000 0x0100 0x03
      [(0x0100, 0xD2), (0x0101, 0x00), (0x0102, 0x20)])
      [.reg .a, .f] =
      some (.ok (.jnc 0x2000) 10, 0x0000, 0x0103, [0x00, 0x03]) := by decide

/-- V43-8 (R702): JPO 2000H. -/
theorem test_v43_8_jpo :
    after (start ⟨0x00, 0x00, 0x00, 0x00, 0x00, 0x00, 0x00⟩ 0x0000 0x0100 0x02
      [(0x0100, 0xE2), (0x0101, 0x00), (0x0102, 0x20)])
      [.reg .a, .f] =
      some (.ok (.jpo 0x2000) 10, 0x0000, 0x2000, [0x00, 0x02]) := by decide

/-- V43-11 (R702): JM 2000H. -/
theorem test_v43_11_jm :
    after (start ⟨0x00, 0x00, 0x00, 0x00, 0x00, 0x00, 0x00⟩ 0x0000 0x0100 0x82
      [(0x0100, 0xFA), (0x0101, 0x00), (0x0102, 0x20)])
      [.reg .a, .f] =
      some (.ok (.jm 0x2000) 10, 0x0000, 0x2000, [0x00, 0x82]) := by decide

/-- V43-13 (R703): CALL 2000H. -/
theorem test_v43_13_call :
    after (start ⟨0x00, 0x00, 0x00, 0x00, 0x00, 0x00, 0x00⟩ 0x0000 0x0100 0x02
      [(0x0100, 0xCD), (0x0101, 0x00), (0x0102, 0x20)])
      [.reg .a, .f, .at 0xFFFE, .at 0xFFFF] =
      some (.ok (.call 0x2000) 17, 0xFFFE, 0x2000, [0x00, 0x02, 0x03, 0x01]) := by decide

/-- V43-14 (R703): CALL 2000H. -/
theorem test_v43_14_call :
    after (start ⟨0x00, 0x00, 0x00, 0x00, 0x00, 0x00, 0x00⟩ 0x1000 0xFFFE 0x02
      [(0xFFFE, 0xCD), (0xFFFF, 0x00), (0x0000, 0x20)])
      [.reg .a, .f, .at 0x0FFE, .at 0x0FFF] =
      some (.ok (.call 0x2000) 17, 0x0FFE, 0x2000, [0x00, 0x02, 0x01, 0x00]) := by decide

/-- V43-16 (R704): CC 2000H. -/
theorem test_v43_16_cc :
    after (start ⟨0x00, 0x00, 0x00, 0x00, 0x00, 0x00, 0x00⟩ 0x1000 0x0100 0x02
      [(0x0100, 0xDC), (0x0101, 0x00), (0x0102, 0x20)])
      [.reg .a, .f] =
      some (.ok (.cc 0x2000) 11, 0x1000, 0x0103, [0x00, 0x02]) := by decide

/-- V43-17 (R704): CC 2000H. -/
theorem test_v43_17_cc :
    after (start ⟨0x00, 0x00, 0x00, 0x00, 0x00, 0x00, 0x00⟩ 0x1000 0x0100 0x03
      [(0x0100, 0xDC), (0x0101, 0x00), (0x0102, 0x20)])
      [.reg .a, .f, .at 0x0FFE, .at 0x0FFF] =
      some (.ok (.cc 0x2000) 17, 0x0FFE, 0x2000, [0x00, 0x03, 0x03, 0x01]) := by decide

/-- V43-20 (R705): RET. -/
theorem test_v43_20_ret :
    after (start ⟨0x00, 0x00, 0x00, 0x00, 0x00, 0x00, 0x00⟩ 0xFFFF 0x2000 0x02
      [(0x2000, 0xC9), (0xFFFF, 0x34), (0x0000, 0x12)])
      [.reg .a, .f] =
      some (.ok .ret 10, 0x0001, 0x1234, [0x00, 0x02]) := by decide

/-- V43-22 (R706): RNZ. -/
theorem test_v43_22_rnz :
    after (start ⟨0x00, 0x00, 0x00, 0x00, 0x00, 0x00, 0x00⟩ 0x0FFE 0x2000 0x42
      [(0x2000, 0xC0), (0x0FFE, 0x03), (0x0FFF, 0x01)])
      [.reg .a, .f] =
      some (.ok .rnz 5, 0x0FFE, 0x2001, [0x00, 0x42]) := by decide

/-- V43-23 (R706): RNZ. -/
theorem test_v43_23_rnz :
    after (start ⟨0x00, 0x00, 0x00, 0x00, 0x00, 0x00, 0x00⟩ 0x0FFE 0x2000 0x02
      [(0x2000, 0xC0), (0x0FFE, 0x03), (0x0FFF, 0x01)])
      [.reg .a, .f] =
      some (.ok .rnz 11, 0x1000, 0x0103, [0x00, 0x02]) := by decide

/-- V43-27 (R707): RST 5. -/
theorem test_v43_27_rst :
    after (start ⟨0x00, 0x00, 0x00, 0x00, 0x00, 0x00, 0x00⟩ 0x1000 0xFFFF 0x02 [(0xFFFF, 0xEF)])
      [.reg .a, .f, .at 0x0FFE, .at 0x0FFF] =
      some (.ok .rst5 11, 0x0FFE, 0x0028, [0x00, 0x02, 0x00, 0x00]) := by decide

/-- V43-28 (R708): PCHL. -/
theorem test_v43_28_pchl :
    after (start ⟨0x00, 0x00, 0x00, 0x00, 0x00, 0x43, 0x21⟩ 0x0000 0x0100 0x02 [(0x0100, 0xE9)])
      [.reg .a, .f] =
      some (.ok .pchl 5, 0x0000, 0x4321, [0x00, 0x02]) := by decide

/-! ### Stack, I/O and machine control (44_stack_io_machine.md) -/

/-- V44-2 (R803): PUSH D. -/
theorem test_v44_2_push :
    after (start ⟨0x00, 0x00, 0x00, 0xAB, 0xCD, 0x00, 0x00⟩ 0x0001 0x0000 0x02 [(0x0000, 0xD5)])
      [.reg .a, .f, .at 0x0000, .at 0xFFFF] =
      some (.ok .pushD 11, 0xFFFF, 0x0001, [0x00, 0x02, 0xAB, 0xCD]) := by decide

/-- V44-4 (R804): PUSH PSW. -/
theorem test_v44_4_push :
    after (start ⟨0x42, 0x00, 0x00, 0x00, 0x00, 0x00, 0x00⟩ 0x1000 0x0000 0x83 [(0x0000, 0xF5)])
      [.reg .a, .f, .at 0x0FFE, .at 0x0FFF] =
      some (.ok .pushPsw 11, 0x0FFE, 0x0001, [0x42, 0x83, 0x83, 0x42]) := by decide

/-- V44-9 (R805): POP H. -/
theorem test_v44_9_pop :
    after (start ⟨0x00, 0x00, 0x00, 0x00, 0x00, 0x00, 0x00⟩ 0xFFFF 0x0100 0x02
      [(0x0100, 0xE1), (0xFFFF, 0x78), (0x0000, 0x56)])
      [.reg .a, .reg .h, .reg .l, .f] =
      some (.ok .popH 10, 0x0001, 0x0101, [0x00, 0x56, 0x78, 0x02]) := by decide

/-- V44-10 (R806): POP PSW. -/
theorem test_v44_10_pop :
    after (start ⟨0x00, 0x00, 0x00, 0x00, 0x00, 0x00, 0x00⟩ 0x0FFE 0x0000 0x02
      [(0x0000, 0xF1), (0x0FFE, 0xFF), (0x0FFF, 0x42)])
      [.reg .a, .f] =
      some (.ok .popPsw 10, 0x1000, 0x0001, [0x42, 0xD7]) := by decide

/-- V44-13 (R807): XTHL. -/
theorem test_v44_13_xthl :
    after (start ⟨0x00, 0x00, 0x00, 0x00, 0x00, 0xAB, 0xCD⟩ 0xFFFF 0x0100 0x02
      [(0x0100, 0xE3), (0xFFFF, 0x34), (0x0000, 0x12)])
      [.reg .a, .reg .h, .reg .l, .f, .at 0x0000, .at 0xFFFF] =
      some (.ok .xthl 18, 0xFFFF, 0x0101, [0x00, 0x12, 0x34, 0x02, 0xAB, 0xCD]) := by decide

/-- V44-14 (R808): SPHL. -/
theorem test_v44_14_sphl :
    after (start ⟨0x00, 0x00, 0x00, 0x00, 0x00, 0x24, 0x00⟩ 0x1000 0x0000 0x02 [(0x0000, 0xF9)])
      [.reg .a, .f] =
      some (.ok .sphl 5, 0x2400, 0x0001, [0x00, 0x02]) := by decide

/-- V44-16 (R809): IN FFH. -/
theorem test_v44_16_in :
    after (start ⟨0x77, 0x00, 0x00, 0x00, 0x00, 0x00, 0x00⟩ 0x0000 0x0000 0x42 [(0x0000, 0xDB), (0x0001, 0xFF)])
      [.reg .a, .f] =
      some (.ok (.inp 0xFF) 10, 0x0000, 0x0002, [0x00, 0x42]) := by decide

/-- V44-17 (R810): OUT 01H. -/
theorem test_v44_17_out :
    after (start ⟨0x41, 0x00, 0x00, 0x00, 0x00, 0x00, 0x00⟩ 0x0000 0x0000 0x02 [(0x0000, 0xD3), (0x0001, 0x01)])
      [.reg .a, .f] =
      some (.ok (.out 0x1) 10, 0x0000, 0x0002, [0x41, 0x02]) := by decide

/-- V44-22 (R814): NOP. -/
theorem test_v44_22_nop :
    after (start ⟨0x00, 0x00, 0x00, 0x00, 0x00, 0x00, 0x00⟩ 0x0000 0x0000 0x02 [(0x0000, 0x00)])
      [.reg .a, .f] =
      some (.ok .nop 4, 0x0000, 0x0001, [0x00, 0x02]) := by decide

/-- After one step: the control bits `halted`, `inte` and `ei_delay`, and PC. -/
def controlAfter (s : State) : Option (Bool × Bool × Bool × Word) :=
  match step s with
  | .next t => some (t.halted, t.inte, t.eiDelay, t.pc)
  | .fault _ => none
  | .refused _ => none

/-- V44-18 (R811): EI. -/
theorem test_v44_18_ei :
    controlAfter (start .reset 0 0 0x02 [(0x0000, 0xFB)]) = some (false, true, true, 0x0001) := by decide

/-- V44-19 (R811): EI with EI_DELAY = false. -/
theorem test_v44_19_ei :
    controlAfter (start .reset 0 0 0x02 [(0x0000, 0xFB)] (params := { defaultParams with eiDelay := false })) =
      some (false, true, false, 0x0001) := by decide

/-- V44-20 (R812): DI. -/
theorem test_v44_20_di :
    controlAfter (start .reset 0 0 0x02 [(0x0000, 0xF3)] (inte := true)) = some (false, false, false, 0x0001) := by decide

/-- V44-21 (R813): HLT. -/
theorem test_v44_21_hlt :
    controlAfter (start .reset 0 0x0100 0x02 [(0x0100, 0x76)]) = some (true, false, false, 0x0101) := by decide

/-- The I/O history after one instruction. -/
def ioAfter (i : Instr) (s : State) : Option (List IoEvent) :=
  match exec i s with
  | .next t => some t.io
  | .fault _ => none
  | .refused _ => none

/-- V44-16 and V44-17 (R230, R231): IN of a port without a hook, and OUT. -/
theorem test_v44_16_17_io :
    ioAfter (.inp 0xFF) .reset = some [.portIn 0xFF 0x00] ∧
    ioAfter (.out 0x01) (start { Regs.reset with a := 0x41 } 0 0 0x02 []) = some [.portOut 0x01 0x41] := by decide

/-- A state whose host has a hook on input port 10H. -/
def hooked : State := start .reset 0 0 0x02 [] (params := { defaultParams with inHooks := [0x10] })

/-- V44-15 (R230): whatever byte the hook answers, IN reads it. -/
theorem test_v44_15_in (v : Byte) (h : Config.portIn 0x10 [] = v) :
    ∃ t, exec (.inp 0x10) hooked = .next t ∧ t.getReg .a = v := ⟨_, rfl, h⟩

/-! ## The host's operations (95_test_vectors.md, part 3) -/

/-- I1 (R912): an accepted request. -/
theorem test_i1_accepted :
    (match hostAct (.interrupt 2) (start .reset 0x1000 0x0100 0x02 [] (inte := true)) with
      | .next (reply, t) => some (reply, t.pc, t.sp, [t.readByte 0x0FFE, t.readByte 0x0FFF], t.inte)
      | _ => none) =
      some (.accepted .rst2 11, 0x0010, 0x0FFE, [0x00, 0x01], false) := by decide

/-- I2 (R910, R911): a request with interrupts disabled. -/
theorem test_i2_not_accepted :
    hostAct (.interrupt 3) .reset = .next (.notAccepted, .reset) := rfl

/-- R-1 and R-2 (R240, R1000): bytes of two images one after another, PC 0. -/
theorem test_r2_construct :
    ((construct defaultParams [.bytes [0xAA, 0xBB], .bytes [0xCC]] 0x0100).toOption.map
      fun s => (s.pc, [s.readByte 0x00FF, s.readByte 0x0100, s.readByte 0x0101, s.readByte 0x0102])) =
      some (0x0000, [0x00, 0xAA, 0xBB, 0xCC]) := by decide

/-- R-4 (R240, R901): construction does not wrap. -/
theorem test_r4_overflow :
    construct defaultParams [.bytes [0xAA, 0xBB]] 0xFFFF = .error .addressSpaceOverflow := rfl

/-- An image that cannot be read fails construction (R241). -/
theorem test_image_unreadable : construct defaultParams [.bytes [0xAA], .unreadable] 0 = .error .imageUnreadable := rfl

/-- R-7 (R1002): reset runs a halted core again, at address 0. -/
theorem test_r7_reset :
    (match hostAct .reset { State.reset with halted := true, pc := 0x0101 } with
      | .next (_, t) => some (t.halted, t.pc)
      | _ => none) = some (false, 0x0000) := by decide

/-- The accesses of a step, in the order of R251: CALL fetches its three bytes and pushes the high byte first (R801). -/
theorem test_accesses_call :
    stepAccesses (start .reset 0x1000 0x0100 0x02 [(0x0100, 0xCD), (0x0101, 0x00), (0x0102, 0x20)]) =
      [.fetch 0x0100, .fetch 0x0101, .fetch 0x0102, .write 0x0FFF 0x01, .write 0x0FFE 0x03] := by decide

/-- The placing of an instruction (Sys2Proof/Machine/Step.lean): the next step runs it. -/
theorem test_withFetchWord : (State.reset.withFetchWord 24 0x1234C3).fetch = .jmp 0x1234 := by decide

/-! ## Witnesses: for each statement with hypotheses, data that meet them -/

/-- A running state with the given code at 0100H, SP 1000H and every flag set. -/
def running (code : List Byte) : State :=
  State.writeBytes (start .reset 0x1000 0x0100 0xD7 []) 0x0100 code

/-- The same with every flag clear. -/
def runningClear (code : List Byte) : State :=
  State.writeBytes (start .reset 0x1000 0x0100 0x02 []) 0x0100 code

theorem test_witness_DocumentedCodeIsUnique : (0xCD : Byte) ∉ aliasOpcodes := by decide

/-- Code that is no EI, and EI. -/
theorem test_witness_StepRunsFetchedInstruction :
    ((running [0x3C]).halted = false ∧ decode [0x3C, 0x00, 0x00] = .ok (.inrA, [0x00, 0x00]) ∧
      exec .inrA (running [0x3C]) = .next (opInr (.reg .a) (running [0x3C]))) ∧
    decode [0xFB, 0x00, 0x00] = .ok (.ei, [0x00, 0x00]) ∧
    exec .ei (running [0xFB]) = .next (opEi (running [0xFB])) := ⟨⟨rfl, rfl, rfl⟩, rfl, rfl⟩

/-- The bytes at PC of those two states are that code. -/
theorem test_witness_StepRunsFetchedInstruction_bytes :
    (running [0x3C]).readByte 0x0100 = 0x3C ∧ (running [0xFB]).readByte 0x0100 = 0xFB ∧
    (running [0x3C]).readByte 0x0101 = 0x00 ∧ (running [0x3C]).readByte 0x0102 = 0x00 := by decide

/-- A halted state, with interrupts disabled. -/
def stopped : State := { State.reset with halted := true, pc := 0x0101 }

theorem test_witness_HaltedStepChangesNothing : stopped.halted = true := rfl

theorem test_witness_HltEndsRun : (running [0x76]).halted = false ∧ (running [0x76]).fetch = .hlt := by decide

theorem test_witness_HaltedForGood :
    stopped.halted = true ∧ stopped.inte = false ∧
    ∀ act ∈ [HostAction.interrupt 3, .step, .interrupt 7], act = .step ∨ ∃ n, act = .interrupt n := by decide

/-- A state whose memory lists cells, and the step that adds one. -/
theorem test_witness_StepKeepsCanonicalMemory :
    CanonicalMemory (running [0x32, 0x00, 0x20]) ∧ ∃ t, step (running [0x32, 0x00, 0x20]) = .next t :=
  ⟨rfl, _, rfl⟩

theorem test_witness_RunsKeepMemoryFormAndParameters :
    CanonicalMemory (running [0xFB]) ∧
    ∃ replies t, hostTrace [.step, .pokeByte 0x2000 0x55, .interrupt 1] (running [0xFB]) = .next (replies, t) :=
  ⟨rfl, _, _, rfl⟩

/-- Two memories that were written in different orders. -/
theorem test_witness_CanonicalMemoriesAreTheirBytes :
    (Memory.write (Memory.write [] 0x0005 0x01) 0xFFFF 0x02).wf = true ∧
    (Memory.write (Memory.write [] 0xFFFF 0x02) 0x0005 0x01).wf = true ∧
    ∀ a, (Memory.write (Memory.write [] 0x0005 0x01) 0xFFFF 0x02).read a =
      (Memory.write (Memory.write [] 0xFFFF 0x02) 0x0005 0x01).read a :=
  ⟨rfl, rfl, fun _ => rfl⟩

/-- The three clauses of a word write, at the top of memory: the low byte at FFFFH, the high byte at 0, no other. -/
theorem test_witness_ByteAndWordAccesses :
    (State.reset.writeWord 0xFFFF 0xBEEF).readByte 0xFFFF = 0xEF ∧
    (State.reset.writeWord 0xFFFF 0xBEEF).readByte 0x0000 = 0xBE ∧
    (State.reset.writeWord 0xFFFF 0xBEEF).readByte 0x0001 = 0x00 := by decide

/-- The clause for the pairs other than SP. -/
theorem test_witness_LoadPairImmediate : RegPair.hl ≠ .sp ∧ RegPair.bc ≠ .sp := by decide

theorem test_witness_IncrementAndDecrementPair : RegPair.hl ≠ .sp ∧ RegPair.de ≠ .sp := by decide

/-- Both values of AC_SUB_MODE. -/
theorem test_witness_SubtractInstructions :
    State.reset.params.acSub = .intel ∧
    (start .reset 0 0 0x02 [] (params := { defaultParams with acSub := .borrow })).params.acSub = .borrow := ⟨rfl, rfl⟩

theorem test_witness_DecrementOperand :
    (running [0x3D]).params.acSub = .intel ∧
    (start .reset 0 0 0x02 [(0, 0x3D)] (params := { defaultParams with acSub := .borrow })).params.acSub = .borrow :=
  ⟨rfl, rfl⟩

theorem test_witness_CompareInstructions :
    (running [0xBF]).params.acSub = .intel ∧
    (start .reset 0 0 0x02 [(0, 0xBF)] (params := { defaultParams with acSub := .borrow })).params.acSub = .borrow :=
  ⟨rfl, rfl⟩

/-- Both values of AC_AND_MODE. -/
theorem test_witness_AndInstructions :
    State.reset.params.acAnd = .intel ∧
    (start .reset 0 0 0x02 [] (params := { defaultParams with acAnd := .clear })).params.acAnd = .clear := ⟨rfl, rfl⟩

/-- A condition that is true, and one that is not, of the same flags. -/
theorem test_witness_CallInstructions :
    CondTrue .z (running [0xCC]).flags ∧ ¬ CondTrue .nz (running [0xC4]).flags := by decide

theorem test_witness_ReturnInstructions :
    CondTrue .m (running [0xF8]).flags ∧ ¬ CondTrue .p (running [0xF0]).flags := by decide

/-- The eight conditions with every flag set and every flag clear (95_test_vectors.md 2.4, R700). -/
theorem test_conditions :
    ([Cond.nz, .z, .nc, .c, .po, .pe, .p, .m].map fun cc => condHolds cc (.unpack 0xD7)) =
      [false, true, false, true, false, true, false, true] ∧
    ([Cond.nz, .z, .nc, .c, .po, .pe, .p, .m].map fun cc => condHolds cc (.unpack 0x02)) =
      [true, false, true, false, true, false, true, false] := by decide

theorem test_witness_PushInstructions : StackPair.psw = .psw := rfl

theorem test_witness_PopInstructions : StackPair.bc ≠ .psw ∧ StackPair.psw = .psw := by decide

/-- A push and a pop into another pair, with SP at 0. -/
theorem test_witness_StackRoundTrip :
    exec (pushInstr .bc) (start .reset 0 0 0x02 []) = .next (opPush .bc (start .reset 0 0 0x02 [])) ∧
    exec (popInstr .psw) (opPush .bc (start .reset 0 0 0x02 [])) =
      .next (opPop .psw (opPush .bc (start .reset 0 0 0x02 []))) := ⟨rfl, rfl⟩

/-- A port with a hook and one without. -/
theorem test_witness_PortInstructions : (0x10 : Byte) ∈ hooked.params.inHooks ∧ (0x11 : Byte) ∉ hooked.params.inHooks := by
  decide

/-- A state that accepts a request, and two that do not: interrupts disabled, and EI not yet in effect. -/
theorem test_witness_InterruptRequest :
    (let s := start .reset 0x1000 0x0100 0x02 [] (inte := true); s.inte = true ∧ s.eiDelay = false) ∧
    ¬ (State.reset.inte = true ∧ State.reset.eiDelay = false) ∧
    (let s := { State.reset with inte := true, eiDelay := true }; ¬ (s.inte = true ∧ s.eiDelay = false)) := by decide

/-- The states of one step and of two steps. -/
def twoSteps (code : List Byte) : Option (State × State) :=
  match step (running code) with
  | .next t =>
    match step t with
    | .next u => some (t, u)
    | _ => none
  | _ => none

/-- EI followed by EI, by DI, and by HLT. -/
theorem test_witness_EiDelaysOneInstruction :
    (running [0xFB, 0xFB]).halted = false ∧ (running [0xFB, 0xFB]).fetch = .ei ∧
    (twoSteps [0xFB, 0xFB]).map (fun p => p.1.fetch) = some .ei ∧
    (twoSteps [0xFB, 0xF3]).map (fun p => p.1.fetch) = some .di ∧
    (twoSteps [0xFB, 0x76]).map (fun p => (p.1.fetch, p.2.canAccept)) = some (.hlt, true) := by decide

/-- An image that cannot be read among images too large to fit (log entry 10). -/
theorem test_witness_ConstructionLoadsImages_unreadable :
    Image.unreadable ∈ [.bytes [0xAA, 0xBB], .unreadable] ∧
    construct defaultParams [.bytes [0xAA, 0xBB], .unreadable] 0xFFFF = .error .imageUnreadable := ⟨by decide, rfl⟩

/-- The clauses meet at 65536: one byte at FFFFH fits, two do not, and byte 0 is at FFFFH, no other address listed. -/
theorem test_witness_ConstructionLoadsImages :
    imageBytes [.bytes [0xAA]] = some [0xAA] ∧ (0xFFFF : Word).toNat + [(0xAA : Byte)].length ≤ 65536 ∧
    imageBytes [.bytes [0xAA], .bytes [0xBB]] = some [0xAA, 0xBB] ∧
    65536 < (0xFFFF : Word).toNat + [(0xAA : Byte), 0xBB].length ∧
    (0 : Nat) < [(0xAA : Byte)].length ∧ (0xFFFE : Word).toNat < (0xFFFF : Word).toNat := by decide

/-- IN, OUT and another instruction. -/
theorem test_witness_StepExtendsIoHistory :
    (running [0xDB, 0x10]).halted = false ∧ (running [0xDB, 0x10]).fetch = .inp 0x10 ∧
    (running [0xD3, 0x11]).fetch = .out 0x11 ∧
    ∀ p, (running [0x00]).fetch ≠ .inp p ∧ (running [0x00]).fetch ≠ .out p := by
  refine ⟨rfl, by decide, by decide, fun p => ?_⟩
  have h : (running [0x00]).fetch = .nop := by decide
  rw [h]
  exact ⟨nofun, nofun⟩

/-- INR A does not write CY; MOV A,B writes no flag. -/
theorem test_witness_OnlyListedFlagsAreWritten :
    exec .inrA (running []) = .next (opInr (.reg .a) (running [])) ∧ FlagName.cy ∉ flagsWritten Instr.inrA.form ∧
    FlagName.ac ∉ flagsWritten Instr.movAB.form := ⟨rfl, by decide, by decide⟩

/-- DAD SP, which reads SP, and RNZ, which is a control transfer. -/
theorem test_witness_WhoWritesSpPcAndControl :
    exec .dadSp (running []) = .next (opDad .sp (running [])) ∧ mayChangeSp Instr.dadSp.form = false ∧
    transfersControl Instr.dadSp.form = false ∧ transfersControl Instr.rnz.form = true ∧
    exec .nop stopped = .next (opNop stopped) ∧ stopped.halted = true ∧
    (Instr.dadSp ≠ .hlt ∧ Instr.dadSp ≠ .ei ∧ Instr.dadSp ≠ .di) := ⟨rfl, rfl, rfl, rfl, rfl, rfl, by decide⟩

/-- ADC A, under both values of AC. -/
theorem test_witness_OnlyDaaAndPushPswReadAc :
    Instr.adcA ≠ .daa ∧ Instr.adcA ≠ .pushPsw ∧ exec .adcA (running []) = .next (opAlu .adc (.reg .a) (running [])) ∧
    exec .adcA ((running []).withAc false) = .next (opAlu .adc (.reg .a) ((running []).withAc false)) :=
  ⟨by decide, by decide, rfl, rfl⟩

theorem test_witness_ListedWritesAreMemoryEffect : exec .xthl (running []) = .next (opXthl (running [])) := rfl

theorem test_witness_StepCosts : (runningClear [0xC0]).halted = false ∧ (runningClear [0xC0]).fetch = .rnz := by decide

end Sys2Proof.Machine
end

section
/-! The packed flags byte (R15): its bits, its value, and what packing and unpacking keep. -/

namespace Sys2Proof.Machine

/-- A flag placed at bit `i` of the byte is seen at bit `i` and at no other. -/
theorem getLsbD_flagBit (b : Bool) {i : Nat} (hi : i < 8) (j : Nat) :
    (flagBit b i).getLsbD j = (b && decide (j = i)) := by
  cases b with
  | false => simp [flagBit]
  | true =>
    have hbit : flagBit true i = BitVec.twoPow 8 i := by simp [flagBit, BitVec.twoPow]
    rw [hbit, BitVec.getLsbD_twoPow]
    simp [hi, eq_comm]

/-- The layout of R15 bit by bit: bit 1 is fixed to 1, bits 3 and 5 (as every bit not named) to 0. -/
theorem Flags.getLsbD_pack (f : Flags) (j : Nat) :
    f.pack.getLsbD j = ((f.s && decide (j = 7)) || (f.z && decide (j = 6)) || (f.ac && decide (j = 4)) ||
      (f.p && decide (j = 2)) || decide (j = 1) || (f.cy && decide (j = 0))) := by
  simp [Flags.pack, getLsbD_flagBit]

/-- The layout of R15 as a number: no two fields overlap. All 32 settings of the flags are compared. -/
theorem Flags.toNat_pack (f : Flags) :
    f.pack.toNat = f.s.toNat * 128 + f.z.toNat * 64 + f.ac.toNat * 16 + f.p.toNat * 4 + 2 + f.cy.toNat := by
  obtain ⟨s, z, ac, p, cy⟩ := f
  revert s z ac p cy
  decide

@[simp] theorem Flags.unpack_pack (f : Flags) : Flags.unpack f.pack = f := by
  simp only [Flags.unpack, Flags.getLsbD_pack]
  simp

/-- The mask D5 keeps the five flag bits; bit 1 comes back set, bits 3 and 5 clear. -/
@[simp] theorem Flags.pack_unpack (b : Byte) : (Flags.unpack b).pack = (b &&& 0xD5) ||| 0x02 := by
  refine BitVec.eq_of_getLsbD_eq fun j hj => ?_
  rw [Flags.getLsbD_pack]
  interval_cases j <;> simp [Flags.unpack]

/-- Settles O17: the value of the packed byte, and packing and unpacking in either order. -/
theorem flagsByteLayout : Obligations.FlagsByteLayout :=
  ⟨fun f => ⟨f.toNat_pack, f.unpack_pack⟩, Flags.pack_unpack⟩

end Sys2Proof.Machine
end

section
/-! Register and pair writes (R110, R111): what a write to a register changes and keeps, and the pairs as views of two
registers. -/

namespace Sys2Proof.Machine

variable {s t u : State} {regs regs' : List Reg8} {stored stored' : List Word}

/-! ## Frames of one change after another -/

theorem KeepsData.trans (h : KeepsData s t regs stored) (k : KeepsData t u regs' stored') :
    KeepsData s u (regs ++ regs') (stored ++ stored') := by
  obtain ⟨hreg, hbyte, hparams⟩ := h
  obtain ⟨kreg, kbyte, kparams⟩ := k
  refine ⟨fun r hr => ?_, fun a ha => ?_, kparams.trans hparams⟩
  · rw [List.mem_append, not_or] at hr
    exact (kreg r hr.2).trans (hreg r hr.1)
  · rw [List.mem_append, not_or] at ha
    exact (kbyte a ha.2).trans (hbyte a ha.1)

theorem KeepsControl.trans (h : KeepsControl s t) (k : KeepsControl t u) : KeepsControl s u := by
  obtain ⟨hhalted, hinte, hdelay⟩ := h
  obtain ⟨khalted, kinte, kdelay⟩ := k
  exact ⟨khalted.trans hhalted, kinte.trans hinte, kdelay.trans hdelay⟩

theorem Frame.trans (h : Frame s t regs stored) (k : Frame t u regs' stored') :
    Frame s u (regs ++ regs') (stored ++ stored') := by
  obtain ⟨hdata, hcontrol⟩ := h
  obtain ⟨kdata, kcontrol⟩ := k
  exact ⟨hdata.trans kdata, hcontrol.trans kcontrol⟩

theorem PlainFrame.trans (h : PlainFrame s t regs stored) (k : PlainFrame t u regs' stored') :
    PlainFrame s u (regs ++ regs') (stored ++ stored') := by
  obtain ⟨hframe, hsp, hflags, hio⟩ := h
  obtain ⟨kframe, ksp, kflags, kio⟩ := k
  exact ⟨hframe.trans kframe, ksp.trans hsp, kflags.trans hflags, kio.trans hio⟩

/-! ## Registers and pairs -/

variable (s)

/-- A register write changes that register and nothing else. -/
theorem State.setReg_plainFrame (r : Reg8) (v : Byte) : PlainFrame s (s.setReg r v) [r] [] := by
  have hreg : ∀ q, q ∉ [r] → (s.setReg r v).getReg q = s.getReg q := fun q hq =>
    s.getReg_setReg_ne r q v (List.ne_of_not_mem_cons hq)
  exact ⟨⟨⟨hreg, by simp, by simp⟩, by simp [KeepsControl]⟩, by simp, by simp, by simp⟩

/-- Writing one register and then another changes these two and nothing else: what a pair write is made of (R110). -/
theorem State.setReg_setReg_plainFrame (r q : Reg8) (v w : Byte) :
    PlainFrame s ((s.setReg r v).setReg q w) [r, q] [] :=
  (s.setReg_plainFrame r v).trans (State.setReg_plainFrame _ q w)

/-- Settles O16: each pair is the join of its two registers, and a pair write is two register writes. -/
theorem pairsAreViews : Obligations.PairsAreViews := by
  intro s v x
  refine ⟨⟨ofBytes_toNat _ _, s.bc_setBc v, rfl, rfl, rfl, rfl⟩, ⟨ofBytes_toNat _ _, s.de_setDe v, rfl, rfl, rfl, rfl⟩,
    ⟨ofBytes_toNat _ _, s.hl_setHl v, rfl, rfl, rfl, rfl⟩, ?_, ?_, ?_, fun r => ?_⟩
  · exact ⟨s.setReg_setReg_plainFrame .b .c _ _, s.setBc_pc v⟩
  · exact ⟨s.setReg_setReg_plainFrame .d .e _ _, s.setDe_pc v⟩
  · exact ⟨s.setReg_setReg_plainFrame .h .l _ _, s.setHl_pc v⟩
  · exact ⟨s.getReg_setReg_same r x, s.setReg_plainFrame r x, s.setReg_pc r x⟩

end Sys2Proof.Machine
end

section
/-! Who writes what (R13, R112, R127, R130, R131): for each of flags, SP, PC and the control bits, the forms that leave it.
A case closed by `rfl` is one whose operation does not name the field; the others split on the operand that the operation
branches on, or on whether the condition holds. -/

namespace Sys2Proof.Machine

variable (s : State)

/-! ## An operand write (R500) -/

theorem State.dst8_sp (x : Operand8) (v : Byte) : (s.dst8 x v).sp = s.sp := by
  obtain ⟨hsp, -⟩ := s.dst8_keeps x v
  exact hsp

theorem State.dst8_pc (x : Operand8) (v : Byte) : (s.dst8 x v).pc = s.pc := by
  obtain ⟨-, hpc, -⟩ := s.dst8_keeps x v
  exact hpc

theorem State.dst8_flags (x : Operand8) (v : Byte) : (s.dst8 x v).flags = s.flags := by
  obtain ⟨-, -, hflags, -⟩ := s.dst8_keeps x v
  exact hflags

/-! ## Flags (R127) -/

theorem FlagName.mem_all (n : FlagName) : n ∈ [.s, .z, .ac, .p, .cy] := by cases n <;> decide

/-- A flag that is not among the first four is CY. -/
theorem FlagName.eq_cy {n : FlagName} (h : n ∉ [.s, .z, .ac, .p]) : n = .cy := by
  cases n with
  | cy => rfl
  | _ => exact absurd (by decide) h

theorem State.setCarry_get {n : FlagName} (cy : Bool) (h : n ∉ [.cy]) : (s.setCarry cy).flags.get n = s.flags.get n := by
  cases n with
  | cy => simp at h
  | _ => rfl

theorem runForm_flags_get (f : Form) {n : FlagName} (h : n ∉ flagsWritten f) :
    (runForm f s).flags.get n = s.flags.get n := by
  cases f with
  | alu _ _ | aluImm _ _ | daa => exact absurd n.mem_all h
  -- The new flags are built anew around the old CY, and the operand write keeps them.
  | inr x | dcr x =>
    rw [FlagName.eq_cy h]
    exact (congrArg (Flags.get · .cy) (State.dst8_flags _ x _)).trans rfl
  | dad _ | rlc | rrc | ral | rar | cmc | stc => exact (State.setCarry_get _ _ h).trans rfl
  | pop rp =>
    cases rp with
    | psw => exact absurd n.mem_all h
    | _ => rfl
  | movRR dst _ | movRM dst | mviR dst _ => cases dst <;> rfl
  | lxi rp _ | inx rp | dcx rp => cases rp <;> rfl
  | jcc _ _ | ccc _ _ | rcc _ => exact (apply_ite (fun t : State => t.flags.get n) _ _ _).trans (ite_self _)
  | _ => rfl

/-- Settles O56: form by form, a flag outside the list of those written is kept. -/
theorem onlyListedFlagsAreWritten : Obligations.OnlyListedFlagsAreWritten := by
  intro i s t n hexec hn
  rw [exec_next i s t hexec]
  exact runForm_flags_get s i.form hn

/-! ## SP (R112) -/

theorem runForm_sp {f : Form} (h : mayChangeSp f = false) : (runForm f s).sp = s.sp := by
  cases f with
  | lxi rp _ | inx rp | dcx rp =>
    cases rp with
    | sp => cases h
    | _ => rfl
  | push _ | pop _ | call _ | ccc _ _ | ret | rcc _ | rst _ | sphl => cases h
  | movRR dst _ | movRM dst | mviR dst _ => cases dst <;> rfl
  | inr x | dcr x => exact State.dst8_sp _ x _
  | jcc _ _ => exact (apply_ite State.sp _ _ _).trans (ite_self _)
  | _ => rfl

/-! ## PC (R13) -/

theorem runForm_pc {f : Form} (h : transfersControl f = false) : (runForm f s).pc = (s.advance f.length).pc := by
  cases f with
  | jmp _ | jcc _ _ | call _ | ccc _ _ | ret | rcc _ | rst _ | pchl => cases h
  | movRR dst _ | movRM dst | mviR dst _ => cases dst <;> rfl
  | inr x | dcr x => exact State.dst8_pc _ x _
  | lxi rp _ | inx rp | dcx rp => cases rp <;> rfl
  | pop rp => cases rp <;> rfl
  | _ => rfl

/-! ## The control bits (R130, R131, R132) -/

/-- An instruction keeps the three control bits, or it is HLT, EI or DI. -/
theorem runForm_control_cases (f : Form) : KeepsControl s (runForm f s) ∨ f = .hlt ∨ f = .ei ∨ f = .di := by
  cases f with
  | hlt => exact .inr (.inl rfl)
  | ei => exact .inr (.inr (.inl rfl))
  | di => exact .inr (.inr (.inr rfl))
  | movRR dst _ | movRM dst | mviR dst _ => cases dst <;> exact .inl ⟨rfl, rfl, rfl⟩
  | inr x | dcr x =>
    obtain ⟨-, -, -, hhalted, hinte, hdelay, -⟩ := State.dst8_keeps _ x _
    exact .inl ⟨hhalted, hinte, hdelay⟩
  | lxi rp _ | inx rp | dcx rp => cases rp <;> exact .inl ⟨rfl, rfl, rfl⟩
  | pop rp => cases rp <;> exact .inl ⟨rfl, rfl, rfl⟩
  | jcc _ _ | ccc _ _ | rcc _ =>
    exact .inl (iteInduction (motive := KeepsControl s) (fun _ => ⟨rfl, rfl, rfl⟩) fun _ => ⟨rfl, rfl, rfl⟩)
  | _ => exact .inl ⟨rfl, rfl, rfl⟩

theorem runForm_halted {f : Form} (h : f ≠ .hlt) : (runForm f s).halted = s.halted := by
  obtain ⟨hhalted, -, -⟩ | rfl | rfl | rfl := runForm_control_cases s f
  · exact hhalted
  · exact absurd rfl h
  · rfl
  · rfl

theorem runForm_inte {f : Form} (hei : f ≠ .ei) (hdi : f ≠ .di) : (runForm f s).inte = s.inte := by
  obtain ⟨-, hinte, -⟩ | rfl | rfl | rfl := runForm_control_cases s f
  · exact hinte
  · rfl
  · exact absurd rfl hei
  · exact absurd rfl hdi

theorem runForm_eiDelay {f : Form} (h : f ≠ .ei) : (runForm f s).eiDelay = s.eiDelay := by
  obtain ⟨-, -, hdelay⟩ | rfl | rfl | rfl := runForm_control_cases s f
  · exact hdelay
  · rfl
  · exact absurd rfl h
  · rfl

/-- No instruction clears `halted`. -/
theorem runForm_halted_of_halted (f : Form) (h : s.halted = true) : (runForm f s).halted = true := by
  by_cases hf : f = .hlt
  · rw [hf]
    rfl
  · rw [runForm_halted s hf, h]

/-- An instruction that is not the form's is of another form. -/
theorem form_ne {i : Instr} {f : Form} (h : i ≠ f.instr) : i.form ≠ f := fun hf => h (by rw [← hf, instr_form])

/-- PC past an instruction, as a number: the instruction's length further, modulo 65536 (R13). -/
theorem State.advance_pc_toNat (len : Nat) : (s.advance len).pc.toNat = (s.pc.toNat + len) % 65536 := by
  simp

/-- Settles O57: each clause is what a form outside the list leaves alone. -/
theorem whoWritesSpPcAndControl : Obligations.WhoWritesSpPcAndControl := by
  intro i s t hexec
  rw [exec_next i s t hexec]
  refine ⟨runForm_sp s, fun hseq => ?_, fun hhlt => runForm_halted s (form_ne hhlt), runForm_halted_of_halted s i.form,
    fun hei hdi => runForm_inte s (form_ne hei) (form_ne hdi), fun hei => runForm_eiDelay s (form_ne hei)⟩
  rw [runForm_pc s hseq]
  exact s.advance_pc_toNat i.length

end Sys2Proof.Machine
end

section
/-! Who reads AC (R126). -/

namespace Sys2Proof.Machine

variable (s : State)

/-- Two branches on the same condition agree but for AC when each of their two ways does. -/
theorem withAc_ite_congr {c c' : Prop} [Decidable c] [Decidable c'] {t t' u u' : State} (hc : c ↔ c')
    (ht : t.withAc false = t'.withAc false) (hu : u.withAc false = u'.withAc false) :
    (if c then t else u).withAc false = (if c' then t' else u').withAc false := by
  simp only [hc]
  split
  · exact ht
  · exact hu

/-- Every instruction but DAA and PUSH PSW computes the same from its state under every AC: of the flags, the ALU
instructions, INR, DCR and the rotates read CY alone, and a condition tests S, Z, P or CY (R700). -/
theorem runForm_withAc {f : Form} (hdaa : f ≠ .daa) (hpush : f ≠ .push .psw) (ac : Bool) :
    (runForm f (s.withAc ac)).withAc false = (runForm f s).withAc false := by
  cases f with
  | daa => exact absurd rfl hdaa
  | push rp =>
    cases rp with
    | psw => exact absurd rfl hpush
    | _ => rfl
  | movRR dst _ | movRM dst | mviR dst _ => cases dst <;> rfl
  | lxi rp _ | inx rp | dcx rp => cases rp <;> rfl
  | pop rp => cases rp <;> rfl
  -- The result and the flags written are those of the operands and CY, which the two states share.
  | alu _ _ | aluImm _ _ | inr _ | dcr _ => rfl
  | jcc _ _ | ccc _ _ | rcc _ => exact withAc_ite_congr Iff.rfl rfl rfl
  | _ => rfl

/-- Settles O58: form by form, executing it under another AC changes nothing but AC. -/
theorem onlyDaaAndPushPswReadAc : Obligations.OnlyDaaAndPushPswReadAc := by
  intro i s t u ac hdaa hpush ht hu
  rw [exec_next i s t ht, exec_next i _ u hu]
  exact runForm_withAc s (form_ne hdaa) (form_ne hpush) ac

end Sys2Proof.Machine
end

section
/-! The state after reset (R140, R240). -/

namespace Sys2Proof.Machine

/-- Settles O52: each value is the one that `State.initial` gives under the default parameters, with no cell listed. -/
theorem resetValues : Obligations.ResetValues := by
  refine ⟨rfl, fun r => ?_, rfl, rfl, rfl, rfl, rfl, rfl, fun a => rfl⟩
  cases r <;> rfl

end Sys2Proof.Machine
end

section
/-! Byte and word accesses (R204 to R207, R209): what a read sees after a write. -/

namespace Sys2Proof.Machine

variable (s : State)

/-- The next address, as a number: it wraps at the end of memory (R202). -/
theorem eq_add_one_iff (a x : Word) : x = a + 1 ↔ x.toNat = (a.toNat + 1) % 65536 := by
  rw [← BitVec.toNat_inj, BitVec.toNat_add]
  rfl

/-- A byte after a word write, the low byte's address asked first: the two addresses differ, so the order is free. -/
theorem State.writeWord_readByte_low_first (a v x : Word) :
    (s.writeWord a v).readByte x =
      if x = a then loByte v else if x.toNat = (a.toNat + 1) % 65536 then hiByte v else s.readByte x := by
  simp only [State.writeWord_readByte, ← eq_add_one_iff]
  by_cases h : x = a
  · rw [if_neg (h ▸ (succ_ne_self a).symm), if_pos h, if_pos h]
  · rw [if_neg h, if_neg h]

/-- A word read joins the two bytes, the one at the address low (R205). -/
theorem State.readWord_toNat (a : Word) :
    (s.readWord a).toNat = (s.readByte (a + 1)).toNat * 256 + (s.readByte a).toNat :=
  ofBytes_toNat _ _

/-- Settles O15: the read-after-write laws of a byte and of a word, and a word read as a number. -/
theorem byteAndWordAccesses : Obligations.ByteAndWordAccesses := fun s a =>
  ⟨fun v x => s.readByte_writeByte a x v, fun v x => s.writeWord_readByte_low_first a v x, s.writeWord_readWord a,
    s.readWord_toNat a⟩

end Sys2Proof.Machine
end

section
/-! The writes an instruction lists are what it does to memory (R211, R251): first the shared operations that
write, then the forms. -/

namespace Sys2Proof.Machine

variable (s : State)

/-! ## Operands and the stack -/

theorem writesOf_operandRead (x : Operand8) : writesOf (operandRead x s) = [] := by cases x <;> rfl

/-- A push writes the two bytes listed for it, the high one first (R801). -/
theorem State.push16_mem_eq_applyWrites (v : Word) :
    (s.push16 v).mem = s.mem.applyWrites (writesOf (pushWrite s.sp v)) :=
  s.push16_mem v

/-- An operand that is read and written back: one write, at HL, when it is M, and none when it is a register (R500). -/
theorem State.dst8_mem_eq_applyWrites (x : Operand8) (v : Byte) :
    (s.dst8 x v).mem = s.mem.applyWrites (writesOf (operandRead x s ++ operandWrite x v s)) := by
  cases x with
  | reg r => exact s.setReg_mem r v
  | mem => rfl

/-! ## The forms -/

/-- A branch applies the writes of the way taken when each of its two ways applies its own. -/
theorem ite_mem_eq_applyWrites {c : Prop} [Decidable c] {t u : State} {xs ys : List Access}
    (ht : t.mem = s.mem.applyWrites (writesOf xs)) (hu : u.mem = s.mem.applyWrites (writesOf ys)) :
    (if c then t else u).mem = s.mem.applyWrites (writesOf (if c then xs else ys)) := by
  split
  · exact ht
  · exact hu

/-- An instruction applies the writes of its access list. A case closed by `rfl` alone either writes the listed bytes in
their order or names no byte of memory. -/
theorem runForm_mem (f : Form) : (runForm f s).mem = s.mem.applyWrites (writesOf (Form.accesses f s)) := by
  cases f with
  | push _ | call _ | rst _ => exact State.push16_mem_eq_applyWrites (s.advance _) _
  | inr x | dcr x => exact State.dst8_mem_eq_applyWrites ((s.advance 1).setFlags _) x _
  | ccc _ _ => exact ite_mem_eq_applyWrites s (State.push16_mem_eq_applyWrites (s.advance 3) _) rfl
  | rcc _ => exact ite_mem_eq_applyWrites s rfl rfl
  | jcc _ _ => exact (apply_ite State.mem _ _ _).trans (ite_self _)
  | alu _ x =>
    rw [Form.accesses, writesOf_operandRead]
    exact State.setAlu_mem _ _
  | movRR dst _ | movRM dst | mviR dst _ => exact State.setReg_mem _ dst _
  | lxi rp _ | inx rp | dcx rp => cases rp <;> rfl
  | pop rp => cases rp <;> rfl
  | _ => rfl

/-- Settles O59: form by form, the listed writes applied in order give the memory of the next state. -/
theorem listedWritesAreMemoryEffect : Obligations.ListedWritesAreMemoryEffect := by
  intro i s t hexec
  rw [exec_next i s t hexec]
  exact runForm_mem s i.form

end Sys2Proof.Machine
end

section
/-! The I/O history (R230 to R232): IN and OUT alone extend it. -/

namespace Sys2Proof.Machine

variable (s : State)

/-- IN leaves in A the byte it read, and records the event with that byte (R809). -/
theorem runForm_inp_io (p : Byte) :
    (runForm (.inp p) s).io = s.io ++ [.portIn p ((runForm (.inp p) s).getReg .a)] := rfl

theorem runForm_out_io (p : Byte) : (runForm (.out p) s).io = s.io ++ [.portOut p (s.getReg .a)] := rfl

theorem State.dst8_io (x : Operand8) (v : Byte) : (s.dst8 x v).io = s.io := by
  obtain ⟨-, -, -, -, -, -, hio, -⟩ := s.dst8_keeps x v
  exact hio

theorem runForm_io {f : Form} (hin : ∀ p, f ≠ .inp p) (hout : ∀ p, f ≠ .out p) : (runForm f s).io = s.io := by
  cases f with
  | inp p => exact absurd rfl (hin p)
  | out p => exact absurd rfl (hout p)
  | movRR dst _ | movRM dst | mviR dst _ => exact State.setReg_io _ dst _
  | inr x | dcr x => exact State.dst8_io _ x _
  | lxi rp _ | inx rp | dcx rp => cases rp <;> rfl
  | pop rp => cases rp <;> rfl
  | jcc _ _ | ccc _ _ | rcc _ => exact (apply_ite State.io _ _ _).trans (ite_self _)
  | _ => rfl

/-- Settles O55: a running step runs the form of the fetched instruction, and settling `ei_delay` after it touches neither
the history nor A. -/
theorem stepExtendsIoHistory : Obligations.StepExtendsIoHistory := by
  intro s t hrunning hstep
  rw [step_running s hrunning, Host.Outcome.next.injEq] at hstep
  subst hstep
  rw [State.retire_io, State.retire_getReg]
  refine ⟨fun p hp => ?_, fun p hp => ?_, fun hnone => runForm_io s (fun p => ?_) fun p => ?_⟩
  · rw [hp]
    exact runForm_inp_io s p
  · rw [hp]
    exact runForm_out_io s p
  · exact form_ne (hnone p).1
  · exact form_ne (hnone p).2

end Sys2Proof.Machine
end

section
/-! Construction (R240, R241, R1000): the bytes of the images, the three outcomes of `construct`, and what the made state
holds. -/

namespace Sys2Proof.Machine

/-! ## The images -/

theorem imageBytes_map_bytes (datas : List (List Byte)) : imageBytes (datas.map .bytes) = some datas.flatten := by
  induction datas with
  | nil => rfl
  | cons data datas ih => rw [List.map_cons, imageBytes, ih, Option.map_some, List.flatten_cons]

theorem imageBytes_eq_none_of_mem {images : List Image} (h : .unreadable ∈ images) : imageBytes images = none := by
  induction images with
  | nil => cases h
  | cons image images ih =>
    cases image with
    | unreadable => rfl
    | bytes data => rw [imageBytes, ih (by simpa using h), Option.map_none]

/-! ## The outcomes -/

variable {p : Params} {images : List Image} {offset : Word} {data : List Byte}

theorem construct_of_imageBytes_eq_none (h : imageBytes images = none) :
    construct p images offset = .error .imageUnreadable := by
  rw [construct, h]

theorem construct_of_overflow (h : imageBytes images = some data) (hsize : 65536 < offset.toNat + data.length) :
    construct p images offset = .error .addressSpaceOverflow := by
  rw [construct, h]
  exact if_pos hsize

theorem construct_of_fits (h : imageBytes images = some data) (hsize : offset.toNat + data.length ≤ 65536) :
    construct p images offset = .ok (.initial p (Memory.writeBytes [] offset data)) := by
  rw [construct, h]
  exact if_neg (Nat.not_lt.mpr hsize)

/-! ## The made state -/

theorem ofNat_toNat_add (a : Word) (j : Nat) : BitVec.ofNat 16 (a.toNat + j) = a + BitVec.ofNat 16 j := by
  rw [BitVec.ofNat_add, BitVec.ofNat_toNat, BitVec.setWidth_eq]

/-- An address below the loaded bytes or past them is the address of none of them: the bytes do not wrap. -/
theorem ne_add_ofNat_of_outside {a : Word} {j : Nat} (hsize : offset.toNat + data.length ≤ 65536)
    (ha : a.toNat < offset.toNat ∨ offset.toNat + data.length ≤ a.toNat) (hj : j < data.length) :
    a ≠ offset + BitVec.ofNat 16 j := by
  rw [← ofNat_toNat_add]
  rintro rfl
  rw [BitVec.toNat_ofNat] at ha
  omega

theorem State.initial_getReg (mem : Memory) (r : Reg8) : (State.initial p mem).getReg r = 0 := by cases r <;> rfl

/-- The packed flags are at their reset value: bit 1 alone is set (R15, R140). -/
theorem Flags.pack_reset : Flags.reset.pack = 0x02 := rfl

/-- Settles O53: `construct` answers by the images' bytes and their size, and loads an empty memory. -/
theorem constructionLoadsImages : Obligations.ConstructionLoadsImages := by
  refine ⟨imageBytes_map_bytes, fun p images offset => ⟨fun h => ?_, fun data hdata => ⟨fun hsize => ?_, fun hsize => ?_⟩⟩⟩
  · exact construct_of_imageBytes_eq_none (imageBytes_eq_none_of_mem h)
  · exact construct_of_overflow hdata hsize
  · obtain ⟨hread, hkeep⟩ := Memory.read_writeBytes data [] offset (by omega)
    refine ⟨_, construct_of_fits hdata hsize, Memory.wf_writeBytes data [] offset rfl, fun j hj => ?_, fun a ha => ?_, rfl,
      State.initial_getReg _, Flags.pack_reset, rfl, rfl, rfl, rfl, rfl, rfl⟩
    · rw [ofNat_toNat_add]
      exact hread j hj
    · exact hkeep a fun j hj => ne_add_ofNat_of_outside hsize ha hj

end Sys2Proof.Machine
end

section
/-! Encoding and decoding (30_encoding.md). An instruction is its opcode byte and its immediates. `Form.withOperands`
exchanges the immediates of a form and keeps what the opcode byte fixes, so that a fact about the decoder splits into one
about the 256 opcode bytes and one about the forms. -/

namespace Sys2Proof

open Machine

variable {op b1 b2 : Byte}

/-! ## The immediates of a form (R308) -/

/-- The form with the bytes after the opcode byte as its immediates: `b1` as a byte, `b2:b1` as a word. -/
def Form.withOperands (f : Form) (b1 b2 : Byte) : Form :=
  match f with
  | .mviR dst _ => .mviR dst b1
  | .mviM _ => .mviM b1
  | .aluImm op _ => .aluImm op b1
  | .inp _ => .inp b1
  | .out _ => .out b1
  | .lxi rp _ => .lxi rp (ofBytes b2 b1)
  | .lda _ => .lda (ofBytes b2 b1)
  | .sta _ => .sta (ofBytes b2 b1)
  | .lhld _ => .lhld (ofBytes b2 b1)
  | .shld _ => .shld (ofBytes b2 b1)
  | .jmp _ => .jmp (ofBytes b2 b1)
  | .jcc cc _ => .jcc cc (ofBytes b2 b1)
  | .call _ => .call (ofBytes b2 b1)
  | .ccc cc _ => .ccc cc (ofBytes b2 b1)
  | f => f

/-- The opcode byte of a form's code. -/
def Form.opcode (f : Form) : Byte := f.encode.headD 0

@[simp] theorem Form.length_withOperands (f : Form) (b1 b2 : Byte) : (f.withOperands b1 b2).length = f.length := by
  cases f <;> rfl

theorem withWord_ofBytes (op b1 b2 : Byte) : withWord op (ofBytes b2 b1) = [op, b1, b2] := by
  rw [withWord, loByte_ofBytes, hiByte_ofBytes]

/-- The code of a form: its opcode byte, then as many of the operand bytes as its length says (R308, R310). -/
theorem Form.encode_withOperands (f : Form) (b1 b2 : Byte) :
    (f.withOperands b1 b2).encode = [f.opcode, b1, b2].take f.length := by
  cases f with
  | lxi _ _ | lda _ | sta _ | lhld _ | shld _ | jmp _ | jcc _ _ | call _ | ccc _ _ => exact withWord_ofBytes _ b1 b2
  | _ => rfl

/-- Every form takes its immediates from some operand bytes. -/
theorem Form.exists_withOperands (f : Form) : ∃ b1 b2, f.withOperands b1 b2 = f := by
  cases f with
  | mviR _ v | mviM v | aluImm _ v | inp v | out v => exact ⟨v, 0, rfl⟩
  | lxi _ w | lda w | sta w | lhld w | shld w | jmp w | jcc _ w | call w | ccc _ w =>
    exact ⟨loByte w, hiByte w, by simp only [Form.withOperands, ofBytes_hiByte_loByte]⟩
  | _ => exact ⟨0, 0, rfl⟩

/-- A form of one byte has no immediates. -/
theorem Form.withOperands_of_length_one {f : Form} (h : f.length = 1) (b1 b2 c1 c2 : Byte) :
    f.withOperands b1 b2 = f.withOperands c1 c2 := by
  cases f with
  | mviR _ _ | mviM _ | aluImm _ _ | inp _ | out _ => cases h
  | lxi _ _ | lda _ | sta _ | lhld _ | shld _ | jmp _ | jcc _ _ | call _ | ccc _ _ => cases h
  | _ => rfl

/-- A form of two bytes takes nothing from the third. -/
theorem Form.withOperands_of_length_two {f : Form} (h : f.length = 2) (b1 b2 c2 : Byte) :
    f.withOperands b1 b2 = f.withOperands b1 c2 := by
  cases f with
  | lxi _ _ | lda _ | sta _ | lhld _ | shld _ | jmp _ | jcc _ _ | call _ | ccc _ _ => cases h
  | _ => rfl

/-! ## The decoder puts the bytes after the opcode byte into the form (R308, R311) -/

theorem withOperands_decodeMov (dst src : Operand8) (b1 b2 : Byte) :
    (decodeMov dst src).withOperands b1 b2 = decodeMov dst src := by
  cases dst <;> cases src <;> rfl

theorem withOperands_decodeMvi (dst : Operand8) (v b1 b2 : Byte) :
    (decodeMvi dst v).withOperands b1 b2 = decodeMvi dst b1 := by
  cases dst <;> rfl

theorem withOperands_decodeLoadStore (y : BitVec 3) (w : Word) (b1 b2 : Byte) :
    (decodeLoadStore y w).withOperands b1 b2 = decodeLoadStore y (ofBytes b2 b1) := by
  unfold decodeLoadStore
  split <;> rfl

theorem withOperands_decodeAccumulator (y : BitVec 3) (b1 b2 : Byte) :
    (decodeAccumulator y).withOperands b1 b2 = decodeAccumulator y := by
  unfold decodeAccumulator
  split <;> rfl

theorem withOperands_decodeReturn (rp : BitVec 2) (b1 b2 : Byte) :
    (decodeReturn rp).withOperands b1 b2 = decodeReturn rp := by
  unfold decodeReturn
  split <;> rfl

theorem withOperands_decodeControl (y : BitVec 3) (v : Byte) (w : Word) (b1 b2 : Byte) :
    (decodeControl y v w).withOperands b1 b2 = decodeControl y b1 (ofBytes b2 b1) := by
  unfold decodeControl
  split <;> rfl

theorem withOperands_decodeMisc (op v : Byte) (w : Word) (b1 b2 : Byte) :
    (decodeMisc op v w).withOperands b1 b2 = decodeMisc op b1 (ofBytes b2 b1) := by
  unfold decodeMisc
  split
  · rfl
  · split <;> rfl
  · exact withOperands_decodeLoadStore _ _ b1 b2
  · split <;> rfl
  · rfl
  · rfl
  · exact withOperands_decodeMvi _ _ b1 b2
  · exact withOperands_decodeAccumulator _ b1 b2

theorem withOperands_decodeTransfer (op v : Byte) (w : Word) (b1 b2 : Byte) :
    (decodeTransfer op v w).withOperands b1 b2 = decodeTransfer op b1 (ofBytes b2 b1) := by
  unfold decodeTransfer
  split
  · rfl
  · split
    · exact withOperands_decodeReturn _ b1 b2
    · rfl
  · rfl
  · exact withOperands_decodeControl _ _ _ b1 b2
  · rfl
  · split <;> rfl
  · rfl
  · rfl

theorem withOperands_decodeForm (op c1 c2 b1 b2 : Byte) :
    (decodeForm op c1 c2).withOperands b1 b2 = decodeForm op b1 b2 := by
  unfold decodeForm
  split
  · exact withOperands_decodeMisc _ _ _ b1 b2
  · exact withOperands_decodeMov _ _ b1 b2
  · rfl
  · exact withOperands_decodeTransfer _ _ _ b1 b2

/-! ## The opcode byte alone: length (R310, R311) and documented code (R302, R321) -/

/-- The length does not depend on the operand bytes; with zero ones, the 256 opcode bytes are compared with R310's lists. -/
theorem length_decodeForm (op b1 b2 : Byte) : (decodeForm op b1 b2).length = opcodeLength op := by
  have hzero : ∀ op, (decodeForm op 0 0).length = opcodeLength op := by decide
  rw [← withOperands_decodeForm op 0 0, Form.length_withOperands, hzero]

theorem length_decodeOp (op b1 b2 : Byte) : (decodeOp op b1 b2).length = opcodeLength op := by
  rw [decodeOp, Instr.length, form_instr, length_decodeForm]

theorem opcodeLength_eq (op : Byte) : opcodeLength op = 1 ∨ opcodeLength op = 2 ∨ opcodeLength op = 3 := by
  grind [opcodeLength]

theorem decodeForm_of_length_one (h : opcodeLength op = 1) (b1 b2 c1 c2 : Byte) :
    decodeForm op b1 b2 = decodeForm op c1 c2 := by
  rw [← withOperands_decodeForm op 0 0 b1 b2, ← withOperands_decodeForm op 0 0 c1 c2]
  exact Form.withOperands_of_length_one ((length_decodeForm op 0 0).trans h) b1 b2 c1 c2

theorem decodeForm_of_length_two (h : opcodeLength op = 2) (b1 b2 c2 : Byte) :
    decodeForm op b1 b2 = decodeForm op b1 c2 := by
  rw [← withOperands_decodeForm op 0 0 b1 b2, ← withOperands_decodeForm op 0 0 b1 c2]
  exact Form.withOperands_of_length_two ((length_decodeForm op 0 0).trans h) b1 b2 c2

/-- The formats assemble a documented opcode byte again from the fields it is decoded by. The 256 opcode bytes are compared. -/
theorem opcode_decodeForm (h : op ∉ aliasOpcodes) : (decodeForm op 0 0).opcode = op := by
  revert op
  decide

/-- The code of the decoded form, for a documented opcode byte. -/
theorem encode_decodeForm (h : op ∉ aliasOpcodes) (b1 b2 : Byte) :
    (decodeForm op b1 b2).encode = [op, b1, b2].take (opcodeLength op) := by
  rw [← withOperands_decodeForm op 0 0, Form.encode_withOperands, opcode_decodeForm h, length_decodeForm]

/-- Settles O2: the code of the decoded form is the code of its instruction. -/
theorem documentedCodeIsUnique : Obligations.DocumentedCodeIsUnique := by
  intro op b1 b2 hop
  rw [decodeOp, encode_instr, encode_decodeForm hop]

/-! ## The decoder of a byte stream (R300, R324) -/

/-- The decoder reads the opcode byte and as many operand bytes as its length says, and leaves the rest. -/
theorem decode_take_append (op b1 b2 : Byte) (rest : List Byte) :
    decode ([op, b1, b2].take (opcodeLength op) ++ rest) = .ok (decodeOp op b1 b2, rest) := by
  obtain h | h | h := opcodeLength_eq op
  · simp [decode, h, decodeOp, decodeForm_of_length_one h b1 b2 0 0]
  · simp [decode, h, decodeOp, decodeForm_of_length_two h b1 b2 0]
  · simp [decode, h]

theorem decode_cons_cons_cons (op b1 b2 : Byte) (rest : List Byte) :
    decode (op :: b1 :: b2 :: rest) =
      .ok (decodeOp op b1 b2, (op :: b1 :: b2 :: rest).drop (opcodeLength op)) := by
  have hlen : opcodeLength op ≤ [op, b1, b2].length := by
    obtain h | h | h := opcodeLength_eq op <;> simp [h]
  have hsplit : op :: b1 :: b2 :: rest =
      [op, b1, b2].take (opcodeLength op) ++ (op :: b1 :: b2 :: rest).drop (opcodeLength op) := by
    rw [← List.take_append_of_le_length (l₂ := rest) hlen]
    exact (List.take_append_drop _ _).symm
  conv_lhs => rw [hsplit]
  exact decode_take_append op b1 b2 _

/-! ## How many opcode bytes have each length (R310) -/

/-- A list of distinct bytes has as many entries as there are byte numbers that it lists. -/
theorem countP_range_contains {l : List Byte} (hl : l.Nodup) :
    (List.range 256).countP (fun n => l.contains (BitVec.ofNat 8 n)) = l.length := by
  have hperm : ((List.range 256).filter fun n => l.contains (BitVec.ofNat 8 n)).Perm (l.map BitVec.toNat) := by
    refine (List.perm_ext_iff_of_nodup (List.nodup_range.filter _) (hl.map BitVec.toNat_injective)).mpr fun n => ?_
    rw [List.mem_filter, List.mem_range, List.contains_iff_mem, List.mem_map]
    constructor
    · rintro ⟨hn, hmem⟩
      exact ⟨_, hmem, Nat.mod_eq_of_lt hn⟩
    · rintro ⟨v, hmem, rfl⟩
      exact ⟨v.isLt, by rwa [BitVec.ofNat_toNat, BitVec.setWidth_eq]⟩
  rw [List.countP_eq_length_filter, hperm.length_eq, List.length_map]

theorem countP_range_not_contains {l : List Byte} (hl : l.Nodup) :
    (List.range 256).countP (fun n => !l.contains (BitVec.ofNat 8 n)) = 256 - l.length := by
  have hall := List.length_eq_countP_add_countP (fun n => l.contains (BitVec.ofNat 8 n)) (l := List.range 256)
  simp only [List.length_range, countP_range_contains hl, Bool.not_eq_true, Bool.decide_eq_false] at hall
  omega

/-- No opcode byte is listed twice by R310. -/
theorem nodup_longOpcodes : (threeByteOpcodes ++ twoByteOpcodes).Nodup := by decide

theorem length_threeByteOpcodes : threeByteOpcodes.length = 30 := rfl

theorem length_twoByteOpcodes : twoByteOpcodes.length = 18 := rfl

theorem opcodeLength_beq_three (op : Byte) : (opcodeLength op == 3) = threeByteOpcodes.contains op := by
  grind [opcodeLength]

theorem opcodeLength_beq_two (op : Byte) : (opcodeLength op == 2) = twoByteOpcodes.contains op := by
  have hdisjoint := List.disjoint_of_nodup_append nodup_longOpcodes
  grind [opcodeLength, List.Disjoint]

theorem opcodeLength_beq_one (op : Byte) :
    (opcodeLength op == 1) = !(threeByteOpcodes ++ twoByteOpcodes).contains op := by
  grind [opcodeLength]

/-- Settles O4: the decoded instruction has the length of its opcode byte, and R310's lists are counted by their entries. -/
theorem everyOpcodeDecodesByItsLength : Obligations.EveryOpcodeDecodesByItsLength := by
  refine ⟨fun op b1 b2 rest => ⟨_, decode_cons_cons_cons op b1 b2 rest, length_decodeOp op b1 b2⟩, ?_, ?_, ?_⟩
  · simp only [opcodeLength_beq_three]
    rw [countP_range_contains nodup_longOpcodes.of_append_left, length_threeByteOpcodes]
  · simp only [opcodeLength_beq_two]
    rw [countP_range_contains nodup_longOpcodes.of_append_right, length_twoByteOpcodes]
  · simp only [opcodeLength_beq_one]
    rw [countP_range_not_contains nodup_longOpcodes, List.length_append, length_threeByteOpcodes, length_twoByteOpcodes]

/-! ## Fields of an assembled opcode byte (R301), and what their codes name (R303 to R306) -/

@[simp] theorem groupField_opcodeOf (g : BitVec 2) (y z : BitVec 3) : groupField (opcodeOf g y z) = g := by
  revert g y z
  decide

@[simp] theorem midField_opcodeOf (g : BitVec 2) (y z : BitVec 3) : midField (opcodeOf g y z) = y := by
  revert g y z
  decide

@[simp] theorem lowField_opcodeOf (g : BitVec 2) (y z : BitVec 3) : lowField (opcodeOf g y z) = z := by
  revert g y z
  decide

@[simp] theorem groupField_opcodeOfPair (g rp : BitVec 2) (q : BitVec 1) (z : BitVec 3) :
    groupField (opcodeOfPair g rp q z) = g :=
  groupField_opcodeOf _ _ _

@[simp] theorem lowField_opcodeOfPair (g rp : BitVec 2) (q : BitVec 1) (z : BitVec 3) :
    lowField (opcodeOfPair g rp q z) = z :=
  lowField_opcodeOf _ _ _

@[simp] theorem pairField_opcodeOfPair (g rp : BitVec 2) (q : BitVec 1) (z : BitVec 3) :
    pairField (opcodeOfPair g rp q z) = rp := by
  revert g rp q z
  decide

@[simp] theorem pairSelect_opcodeOfPair (g rp : BitVec 2) (q : BitVec 1) (z : BitVec 3) :
    pairSelect (opcodeOfPair g rp q z) = q.getLsbD 0 := by
  revert g rp q z
  decide

@[simp] theorem Operand8.ofCode_code (x : Operand8) : Operand8.ofCode x.code = x := by
  cases x with
  | reg r => cases r <;> rfl
  | mem => rfl

@[simp] theorem RegPair.ofCode_code (rp : RegPair) : RegPair.ofCode rp.code = rp := by cases rp <;> rfl

@[simp] theorem StackPair.ofCode_code (rp : StackPair) : StackPair.ofCode rp.code = rp := by cases rp <;> rfl

@[simp] theorem Cond.ofCode_code (cc : Cond) : Cond.ofCode cc.code = cc := by cases cc <;> rfl

@[simp] theorem AluOp.ofCode_code (op : AluOp) : AluOp.ofCode op.code = op := by cases op <;> rfl

/-- The fixed field 110 of the MOV formats names M (R303). -/
theorem Operand8.ofCode_six : Operand8.ofCode 6#3 = .mem := rfl

/-! ## Decoding takes the formats apart (R302) -/

/-- The fields put into an opcode byte are those the decoder reads; an opcode byte without fields is evaluated. -/
theorem decodeForm_opcode (f : Form) (b1 b2 : Byte) : decodeForm f.opcode b1 b2 = f.withOperands b1 b2 := by
  cases f with
  | movRR _ _ | movRM _ | movMR _ =>
    simp [Form.opcode, Form.encode, Form.withOperands, decodeForm, decodeMov, Operand8.ofCode_six]
  | mviR _ _ =>
    simp [Form.opcode, Form.encode, Form.withOperands, decodeForm, decodeMisc, decodeMvi]
  | alu _ _ =>
    simp [Form.opcode, Form.encode, Form.withOperands, decodeForm]
  | lxi _ _ | inx _ | dcx _ | dad _ | inr _ | dcr _ =>
    simp [Form.opcode, Form.encode, Form.withOperands, withWord, decodeForm, decodeMisc]
  | jcc _ _ | ccc _ _ | rcc _ | rst _ | push _ | pop _ | aluImm _ _ =>
    simp [Form.opcode, Form.encode, Form.withOperands, withWord, decodeForm, decodeTransfer]
  | ldax rp | stax rp => cases rp <;> rfl
  | mviM _ | lda _ | sta _ | lhld _ | shld _ | jmp _ | call _ | inp _ | out _ =>
    simp only [Form.opcode, Form.encode, withWord, List.headD_cons]
    rfl
  | _ => rfl

theorem opcodeLength_opcode (f : Form) : opcodeLength f.opcode = f.length := by
  rw [← length_decodeForm _ 0 0, decodeForm_opcode, Form.length_withOperands]

/-- The round trip for forms: the operand bytes of a form's code give its immediates back. -/
theorem decode_encode_append (f : Form) (rest : List Byte) : decode (f.encode ++ rest) = .ok (f.instr, rest) := by
  obtain ⟨b1, b2, hf⟩ := f.exists_withOperands
  have hcode : f.encode = [f.opcode, b1, b2].take (opcodeLength f.opcode) := by
    rw [opcodeLength_opcode, ← Form.encode_withOperands, hf]
  rw [hcode, decode_take_append, decodeOp, decodeForm_opcode, hf]

/-- Settles O1: an instruction's code is the code of its form, and its form stands for it. -/
theorem decodeEncodeRoundTrip : Obligations.DecodeEncodeRoundTrip := by
  intro i rest
  rw [encode, decode_encode_append, instr_form]

/-! ## Duplicate opcode bytes (R321) and sample words (R302, R308, R320) -/

/-- Group 00 with sub-operation 000 is NOP, whatever bits 5:3 hold. -/
theorem decodeForm_nop (hgroup : groupField op = 0) (hlow : lowField op = 0) : decodeForm op b1 b2 = .nop := by
  simp [decodeForm, decodeMisc, hgroup, hlow]

/-- Group 11 with sub-operation 101 and bit 3 set is CALL, whatever bits 5:4 hold. -/
theorem decodeForm_call (hgroup : groupField op = 3) (hlow : lowField op = 5) (hselect : pairSelect op = true) :
    decodeForm op b1 b2 = .call (ofBytes b2 b1) := by
  simp [decodeForm, decodeTransfer, hgroup, hlow, hselect]

/-- Settles O3: a duplicate differs from the documented opcode byte only in a field that the decoder does not look at. -/
theorem aliasesDecodeToCanonical : Obligations.AliasesDecodeToCanonical := by
  intro b1 b2 f
  refine ⟨fun op hop => ?_, ⟨rfl, rfl, rfl, rfl⟩, ⟨rfl, rfl, rfl, rfl⟩, fun op hop => ?_⟩
  · obtain ⟨hgroup, hlow, hlen⟩ : groupField op = 0 ∧ lowField op = 0 ∧ opcodeLength op = 1 := by
      revert op
      decide
    exact ⟨congrArg Form.instr (decodeForm_nop hgroup hlow), rfl, hlen, rfl⟩
  · obtain ⟨hgroup, hlow, hselect, hlen⟩ :
        groupField op = 3 ∧ lowField op = 5 ∧ pairSelect op = true ∧ opcodeLength op = 3 := by
      revert op
      decide
    exact ⟨congrArg Form.instr (decodeForm_call hgroup hlow hselect), rfl, hlen, rfl⟩

/-- Settles O5: the decoder evaluated on each word and on the two streams that end too early. -/
theorem sampleWordsDecode : Obligations.SampleWordsDecode :=
  ⟨rfl, rfl, rfl, rfl, rfl, rfl, rfl, rfl, rfl, rfl, rfl, rfl, rfl, rfl⟩

end Sys2Proof
end

section
/-! What the statements about one instruction share: its code, its cost and the state it answers, taken from its form; and the
frames of the operations that the rules are made of. -/

namespace Sys2Proof.Machine

variable (s : State)

/-! ## Code, cost and next state (R302, R820) -/

/-- A form's code is read back as the instruction of that form. -/
theorem codedAs_instr (f : Form) : CodedAs f.instr f.encode :=
  ⟨encode_instr f, decode_encode_append f⟩

/-- The shape of a statement about one instruction: what holds of the state that its form's rule gives is left to show. -/
theorem codedAs_tstates_exec_instr (f : Form) {P : State → Prop} (h : P (runForm f s)) :
    CodedAs f.instr f.encode ∧ (∀ g, tstates f.instr g = Form.tstates f g) ∧ ∃ t, exec f.instr s = .next t ∧ P t :=
  ⟨codedAs_instr f, tstates_instr f, runForm f s, exec_instr f s, h⟩

/-! ## Frames of the shared operations -/

/-- Moving PC past an instruction changes nothing else (R13). -/
theorem State.advance_plainFrame (len : Nat) : PlainFrame s (s.advance len) [] [] := by
  simp [PlainFrame, Frame, KeepsData, KeepsControl]

/-- A byte write changes that byte and nothing else (R206). -/
theorem State.writeByte_plainFrame (a : Word) (v : Byte) : PlainFrame s (s.writeByte a v) [] [a] := by
  have hbyte : ∀ x, x ∉ [a] → (s.writeByte a v).readByte x = s.readByte x := fun x hx => by
    rw [s.readByte_writeByte, if_neg (List.ne_of_not_mem_cons hx)]
  exact ⟨⟨⟨by simp, hbyte, by simp⟩, by simp [KeepsControl]⟩, by simp, by simp, by simp⟩

/-- A word write changes the two bytes from its address on, modulo 65536, and nothing else (R207). -/
theorem State.writeWord_plainFrame (a v : Word) : PlainFrame s (s.writeWord a v) [] [a, a + 1] :=
  (s.writeByte_plainFrame a _).trans (State.writeByte_plainFrame _ (a + 1) _)

/-- A pair write changes the registers of the pair, or SP, and nothing else (R304). -/
theorem State.setPair_frame (rp : RegPair) (v : Word) :
    Frame s (s.setPair rp v) (pairRegs rp) [] ∧ (rp ≠ .sp → (s.setPair rp v).sp = s.sp) ∧
      (s.setPair rp v).flags = s.flags ∧ (s.setPair rp v).io = s.io := by
  have of_plain {t : State} {regs : List Reg8} (h : PlainFrame s t regs []) :
      Frame s t regs [] ∧ (rp ≠ .sp → t.sp = s.sp) ∧ t.flags = s.flags ∧ t.io = s.io := by
    obtain ⟨hframe, hsp, hflags, hio⟩ := h
    exact ⟨hframe, fun _ => hsp, hflags, hio⟩
  cases rp with
  | bc => exact of_plain (s.setReg_setReg_plainFrame .b .c _ _)
  | de => exact of_plain (s.setReg_setReg_plainFrame .d .e _ _)
  | hl => exact of_plain (s.setReg_setReg_plainFrame .h .l _ _)
  | sp => simp [State.setPair, Frame, KeepsData, KeepsControl, pairRegs]

theorem State.setPair_pc (rp : RegPair) (v : Word) : (s.setPair rp v).pc = s.pc := by
  cases rp <;> simp [State.setPair]

end Sys2Proof.Machine
end

section
/-! Data transfer (R400 to R412). A load is a register write and a store a byte write, each after PC has moved on. -/

namespace Sys2Proof.Machine

variable (s : State)

/-! ## Loads and stores -/

theorem State.advance_setReg_effect (len : Nat) (r : Reg8) (v : Byte) :
    ((s.advance len).setReg r v).getReg r = v ∧ ((s.advance len).setReg r v).pc = s.pc + BitVec.ofNat 16 len ∧
      PlainFrame s ((s.advance len).setReg r v) [r] [] :=
  ⟨by simp, by simp, (s.advance_plainFrame len).trans (State.setReg_plainFrame _ r v)⟩

theorem State.advance_writeByte_effect (len : Nat) (a : Word) (v : Byte) :
    ((s.advance len).writeByte a v).readByte a = v ∧ ((s.advance len).writeByte a v).pc = s.pc + BitVec.ofNat 16 len ∧
      PlainFrame s ((s.advance len).writeByte a v) [] [a] :=
  ⟨by simp [State.readByte], by simp, (s.advance_plainFrame len).trans (State.writeByte_plainFrame _ a v)⟩

/-- Settles O18: a load from a register, which may be the destination itself. -/
theorem movRegisterToRegister : Obligations.MovRegisterToRegister := by
  intro dst src s
  refine codedAs_tstates_exec_instr s (.movRR dst src) ?_
  exact s.advance_setReg_effect 1 dst _

/-- Settles O19: a load and a store at HL as it is before the instruction. -/
theorem movBetweenRegisterAndMemory : Obligations.MovBetweenRegisterAndMemory := by
  intro r s
  refine ⟨codedAs_tstates_exec_instr s (.movRM r) ?_, codedAs_tstates_exec_instr s (.movMR r) ?_⟩
  · exact s.advance_setReg_effect 1 r _
  · exact s.advance_writeByte_effect 1 s.hl _

/-- Settles O20: a load and a store of the immediate, which the instruction carries: the store may hit its own bytes. -/
theorem moveImmediate : Obligations.MoveImmediate := by
  intro r v s
  refine ⟨codedAs_tstates_exec_instr s (.mviR r v) ?_, codedAs_tstates_exec_instr s (.mviM v) ?_⟩
  · exact s.advance_setReg_effect 2 r v
  · exact s.advance_writeByte_effect 2 s.hl v

/-- Settles O22: loads of A from the three kinds of address. -/
theorem loadAccumulator : Obligations.LoadAccumulator := by
  intro s
  refine ⟨fun addr => codedAs_tstates_exec_instr s (.lda addr) ?_, codedAs_tstates_exec_instr s (.ldax .bc) ?_,
    codedAs_tstates_exec_instr s (.ldax .de) ?_⟩
  · exact s.advance_setReg_effect 3 .a _
  · exact s.advance_setReg_effect 1 .a _
  · exact s.advance_setReg_effect 1 .a _

/-- Settles O23: stores of A at the three kinds of address. -/
theorem storeAccumulator : Obligations.StoreAccumulator := by
  intro s
  refine ⟨fun addr => codedAs_tstates_exec_instr s (.sta addr) ?_, codedAs_tstates_exec_instr s (.stax .bc) ?_,
    codedAs_tstates_exec_instr s (.stax .de) ?_⟩
  · exact s.advance_writeByte_effect 3 addr _
  · exact s.advance_writeByte_effect 1 s.bc _
  · exact s.advance_writeByte_effect 1 s.de _

/-! ## Pairs -/

/-- Settles O21: a pair write, SP among the pairs. -/
theorem loadPairImmediate : Obligations.LoadPairImmediate := by
  intro rp v s
  refine codedAs_tstates_exec_instr s (.lxi rp v) ?_
  obtain ⟨hadvance, -⟩ := s.advance_plainFrame 3
  obtain ⟨hframe, hrest⟩ := (s.advance 3).setPair_frame rp v
  exact ⟨State.setPair_getPair _ rp v, State.setPair_pc _ rp v, hadvance.trans hframe, hrest⟩

theorem opLhld_getReg_l (addr : Word) : (opLhld addr s).getReg .l = s.readByte addr := loByte_ofBytes _ _

theorem opLhld_getReg_h (addr : Word) : (opLhld addr s).getReg .h = s.readByte (addr + 1) := hiByte_ofBytes _ _

theorem opLhld_plainFrame (addr : Word) : PlainFrame s (opLhld addr s) [.h, .l] [] :=
  (s.advance_plainFrame 3).trans (State.setReg_setReg_plainFrame _ .h .l _ _)

theorem opShld_readByte (addr : Word) : (opShld addr s).readByte addr = s.getReg .l := by
  rw [opShld, State.writeWord_readByte, if_neg (succ_ne_self addr).symm, if_pos rfl]
  exact loByte_ofBytes _ _

theorem opShld_readByte_succ (addr : Word) : (opShld addr s).readByte (addr + 1) = s.getReg .h := by
  rw [opShld, State.writeWord_readByte, if_pos rfl]
  exact hiByte_ofBytes _ _

theorem opShld_plainFrame (addr : Word) : PlainFrame s (opShld addr s) [] [addr, addr + 1] :=
  (s.advance_plainFrame 3).trans (State.writeWord_plainFrame _ addr _)

/-- Settles O24: the halves of HL are loaded from and stored at two addresses, which differ also where they wrap. -/
theorem loadAndStoreHL : Obligations.LoadAndStoreHL := by
  intro addr s
  refine ⟨codedAs_tstates_exec_instr s (.lhld addr) ?_, codedAs_tstates_exec_instr s (.shld addr) ?_⟩
  · exact ⟨opLhld_getReg_l s addr, opLhld_getReg_h s addr, State.setHl_pc _ _, opLhld_plainFrame s addr⟩
  · exact ⟨opShld_readByte s addr, opShld_readByte_succ s addr, State.writeWord_pc _ _ _, opShld_plainFrame s addr⟩

/-! ## XCHG -/

theorem State.setDe_hl (v : Word) : (s.setDe v).hl = s.hl := rfl

theorem opXchg_hl : (opXchg s).hl = s.de := by
  rw [opXchg, State.setDe_hl, State.hl_setHl]

theorem opXchg_de : (opXchg s).de = s.hl := State.de_setDe _ _

/-- The two pairs share no register, so the order of the two writes is free. -/
theorem State.setHl_setDe_comm (v w : Word) : (s.setHl v).setDe w = (s.setDe w).setHl v := rfl

theorem opXchg_plainFrame : PlainFrame s (opXchg s) [.d, .e, .h, .l] [] := by
  rw [opXchg, State.setHl_setDe_comm]
  exact ((s.advance_plainFrame 1).trans (State.setReg_setReg_plainFrame _ .d .e _ _)).trans
    (State.setReg_setReg_plainFrame _ .h .l _ _)

/-- Settles O25: each exchange swaps the two pairs, so the second one undoes the first. -/
theorem exchangeRegisterPairs : Obligations.ExchangeRegisterPairs := by
  refine ⟨codedAs_instr .xchg, tstates_instr .xchg, fun s => ?_⟩
  refine ⟨opXchg s, exec_instr .xchg s, opXchg_hl s, opXchg_de s, ?_, opXchg_plainFrame s, opXchg (opXchg s),
    exec_instr .xchg _, ?_, ?_⟩
  · rw [opXchg, State.setDe_pc, State.setHl_pc]
    rfl
  · rw [opXchg_hl, opXchg_de]
  · rw [opXchg_de, opXchg_hl]

end Sys2Proof.Machine
end

section
/-! Arithmetic (R501 to R540). An ALU instruction and DAA write a result into A and the flags, INR and DCR into their
operand and the flags, INX, DCX and DAD into a pair, each after PC has moved on. -/

namespace Sys2Proof.Machine

variable (s : State)

/-! ## The cost of an operand (R1020) -/

theorem byOperand_eq_ite (x : Operand8) (onReg onMem : Nat) :
    byOperand x onReg onMem = if x = .mem then onMem else onReg := by
  cases x <;> simp [byOperand]

/-- The shape of a statement about one instruction whose cost depends on its operand `x`. -/
theorem codedAs_tstates_exec_byOperand (f : Form) {x : Operand8} {onReg onMem : Nat} {P : State → Prop}
    (hcost : ∀ g, Form.tstates f g = byOperand x onReg onMem) (h : P (runForm f s)) :
    CodedAs f.instr f.encode ∧ (∀ g, tstates f.instr g = if x = .mem then onMem else onReg) ∧
      ∃ t, exec f.instr s = .next t ∧ P t := by
  obtain ⟨hcoded, htstates, hexec⟩ := codedAs_tstates_exec_instr s f h
  exact ⟨hcoded, fun g => (htstates g).trans ((hcost g).trans (byOperand_eq_ite x onReg onMem)), hexec⟩

/-! ## Results in A: the ALU (R500) -/

/-- Setting the flags changes nothing else. -/
theorem State.setFlags_frame (f : Flags) :
    Frame s (s.setFlags f) [] [] ∧ (s.setFlags f).sp = s.sp ∧ (s.setFlags f).io = s.io := by
  simp [Frame, KeepsData, KeepsControl]

/-- An ALU result changes A and the flags and nothing else. -/
theorem State.setAlu_aluFrame (r : AluResult) : AluFrame s (s.setAlu r) := by
  obtain ⟨hflags, hsp, hio⟩ := s.setFlags_frame r.flags
  obtain ⟨hreg, hsp', -, hio'⟩ := (s.setFlags r.flags).setReg_plainFrame .a r.value
  exact ⟨hflags.trans hreg, hsp'.trans hsp, hio'.trans hio⟩

/-- What an ALU result written after PC has moved on leaves: PC past the instruction, and all but A and the flags. -/
theorem State.advance_setAlu_effect (len : Nat) (r : AluResult) :
    ((s.advance len).setAlu r).pc = s.pc + BitVec.ofNat 16 len ∧ AluFrame s ((s.advance len).setAlu r) := by
  obtain ⟨hadvance, hsp, -, hio⟩ := s.advance_plainFrame len
  obtain ⟨hframe, hsp', hio'⟩ := (s.advance len).setAlu_aluFrame r
  exact ⟨by simp, hadvance.trans hframe, hsp'.trans hsp, hio'.trans hio⟩

/-- Settles O26: the sums without and with CY, of an operand and of an immediate. -/
theorem addInstructions : Obligations.AddInstructions := by
  intro s
  refine ⟨fun x => ⟨codedAs_tstates_exec_byOperand s (.alu .add x) (fun _ => rfl) ?_,
      codedAs_tstates_exec_byOperand s (.alu .adc x) (fun _ => rfl) ?_⟩,
    fun v => ⟨codedAs_tstates_exec_instr s (.aluImm .add v) ?_, codedAs_tstates_exec_instr s (.aluImm .adc v) ?_⟩⟩
  · exact ⟨add8_spec _ _ _, s.advance_setAlu_effect 1 _⟩
  · exact ⟨add8_spec _ _ _, s.advance_setAlu_effect 1 _⟩
  · exact ⟨add8_spec _ _ _, s.advance_setAlu_effect 2 _⟩
  · exact ⟨add8_spec _ _ _, s.advance_setAlu_effect 2 _⟩

/-- Settles O27: the differences without and with CY, of an operand and of an immediate. -/
theorem subtractInstructions : Obligations.SubtractInstructions := by
  intro s
  refine ⟨fun x => ⟨codedAs_tstates_exec_byOperand s (.alu .sub x) (fun _ => rfl) ?_,
      codedAs_tstates_exec_byOperand s (.alu .sbb x) (fun _ => rfl) ?_⟩,
    fun v => ⟨codedAs_tstates_exec_instr s (.aluImm .sub v) ?_, codedAs_tstates_exec_instr s (.aluImm .sbb v) ?_⟩⟩
  · exact ⟨sub8_spec _ _ _ _, s.advance_setAlu_effect 1 _⟩
  · exact ⟨sub8_spec _ _ _ _, s.advance_setAlu_effect 1 _⟩
  · exact ⟨sub8_spec _ _ _ _, s.advance_setAlu_effect 2 _⟩
  · exact ⟨sub8_spec _ _ _ _, s.advance_setAlu_effect 2 _⟩

/-! ## DAA (R540) -/

/-- The test that DAA makes after its low correction, in the terms of the byte before it: the low correction carries into
the high nibble just when the low nibble is above 9, and not when AC alone asks for it (R540). -/
theorem nine_lt_high_after_low_correction (n : Nat) (ac : Bool) :
    9 < (if ac = true ∨ 9 < n % 16 then n + 6 else n) / 16 ↔ 9 < n / 16 ∨ (9 ≤ n / 16 ∧ 9 < n % 16) := by
  split <;> omega

/-- The low part of the one-step correction is below 0x60, so the correction reaches 0x60 by its high part alone (R540). -/
theorem le_daaCorrection_iff (a : Byte) (f : Flags) :
    0x60 ≤ daaCorrection a f ↔ f.cy = true ∨ 9 < a.toNat / 16 ∨ (9 ≤ a.toNat / 16 ∧ 9 < a.toNat % 16) := by
  rw [daaCorrection]
  split_ifs with hlow hhigh hhigh <;> simp [hhigh]

/-- The two steps of DAA add the one-step correction, and its CY says that the high part was added (R540). -/
theorem daa8_spec (a : Byte) (f : Flags) :
    (daa8 a f).value.toNat = (a.toNat + daaCorrection a f) % 256 ∧
    ((daa8 a f).flags.ac = true ↔ 9 < a.toNat % 16) ∧
    ((daa8 a f).flags.cy = true ↔ 0x60 ≤ daaCorrection a f) ∧ SzpOf (daa8 a f).flags (daa8 a f).value := by
  have hhigh := nine_lt_high_after_low_correction a.toNat f.ac
  refine ⟨?_, decide_eq_true_iff, ?_, szp_spec _ _ _⟩
  · simp only [daa8, lowNibble, gt_iff_lt, BitVec.toNat_ofNat, or_comm (b := f.ac = true), or_comm (b := f.cy = true),
      hhigh, daaCorrection]
    split_ifs <;> rfl
  · simp only [daa8, szp, lowNibble, gt_iff_lt, decide_eq_true_eq, or_comm (b := f.ac = true),
      or_comm (b := f.cy = true), hhigh, le_daaCorrection_iff]

/-- Settles O32: DAA writes the corrected A, whose two steps are the one step. -/
theorem decimalAdjust : Obligations.DecimalAdjust := by
  refine ⟨codedAs_instr .daa, tstates_instr .daa, fun s => ⟨opDaa s, exec_instr .daa s, ?_⟩⟩
  obtain ⟨hvalue, hac, hcy, hszp⟩ := daa8_spec (s.getReg .a) s.flags
  exact ⟨hvalue, hac, hcy, hszp, s.advance_setAlu_effect 1 _⟩

/-! ## Results in an operand: INR and DCR (R503) -/

/-- An operand reads what was last written to it: a write to M leaves HL. -/
theorem State.dst8_src8 (x : Operand8) (v : Byte) : (s.dst8 x v).src8 x = v := by
  cases x with
  | reg r => exact s.getReg_setReg_same r v
  | mem => exact s.readByte_writeByte_same s.hl v

/-- An operand write changes the operand and nothing else. -/
theorem State.dst8_plainFrame (x : Operand8) (v : Byte) :
    PlainFrame s (s.dst8 x v) (operandRegs x) (operandStore x s) := by
  cases x with
  | reg r => exact s.setReg_plainFrame r v
  | mem => exact s.writeByte_plainFrame s.hl v

/-- HL is where it was after PC has moved on and the flags are set. -/
theorem operandStore_advance_setFlags (x : Operand8) (len : Nat) (f : Flags) :
    operandStore x ((s.advance len).setFlags f) = operandStore x s := by
  cases x <;> rfl

/-- What INR and DCR make of a result: the operand, the flags and PC are written, and nothing else. -/
theorem State.advance_setFlags_dst8_effect (x : Operand8) (r : AluResult) {t : State}
    (ht : t = ((s.advance 1).setFlags r.flags).dst8 x r.value) :
    t.src8 x = r.value ∧ t.flags = r.flags ∧ t.pc = s.pc + 1 ∧
      Frame s t (operandRegs x) (operandStore x s) ∧ t.sp = s.sp ∧ t.io = s.io := by
  subst ht
  obtain ⟨hadvance, hsp, -, hio⟩ := s.advance_plainFrame 1
  obtain ⟨hflags, hsp', hio'⟩ := (s.advance 1).setFlags_frame r.flags
  obtain ⟨hframe, hsp'', -, hio''⟩ := ((s.advance 1).setFlags r.flags).dst8_plainFrame x r.value
  rw [operandStore_advance_setFlags] at hframe
  exact ⟨State.dst8_src8 _ x _, State.dst8_flags _ x _, State.dst8_pc _ x _, (hadvance.trans hflags).trans hframe,
    hsp''.trans (hsp'.trans hsp), hio''.trans (hio'.trans hio)⟩

/-- Settles O28: the operand is written with its increment, M at HL as it is before the instruction. -/
theorem incrementOperand : Obligations.IncrementOperand := by
  intro x s
  refine codedAs_tstates_exec_byOperand s (.inr x) (fun _ => rfl) ?_
  obtain ⟨hvalue, hflags, hkept⟩ := s.advance_setFlags_dst8_effect x (inr8 (s.src8 x) s.flags) (t := opInr x s) rfl
  obtain ⟨hresult, hac, hszp, hcy⟩ := inr8_spec (s.src8 x) s.flags
  simp only [runForm, hvalue, hflags]
  exact ⟨hresult, hac, hszp, hcy, hkept⟩

/-- Settles O29: the operand is written with its decrement, AC under the mode the core was constructed with. -/
theorem decrementOperand : Obligations.DecrementOperand := by
  intro x s
  refine codedAs_tstates_exec_byOperand s (.dcr x) (fun _ => rfl) ?_
  obtain ⟨hvalue, hflags, hkept⟩ :=
    s.advance_setFlags_dst8_effect x (dcr8 s.params.acSub (s.src8 x) s.flags) (t := opDcr x s) rfl
  obtain ⟨hresult, hintel, hborrow, hszp, hcy⟩ := dcr8_spec s.params.acSub (s.src8 x) s.flags
  simp only [runForm, hvalue, hflags]
  exact ⟨hresult, hintel, hborrow, hszp, hcy, hkept⟩

/-! ## Results in a pair: INX, DCX and DAD (R530 to R532) -/

/-- A pair write after PC has moved on changes the pair and PC and nothing else. -/
theorem State.advance_setPair_effect (rp : RegPair) (v : Word) {t : State} (ht : t = (s.advance 1).setPair rp v) :
    t.getPair rp = v ∧ t.pc = s.pc + 1 ∧ Frame s t (pairRegs rp) [] ∧ (rp ≠ .sp → t.sp = s.sp) ∧
      t.flags = s.flags ∧ t.io = s.io := by
  subst ht
  obtain ⟨hadvance, -⟩ := s.advance_plainFrame 1
  obtain ⟨hframe, hrest⟩ := (s.advance 1).setPair_frame rp v
  exact ⟨State.setPair_getPair _ rp v, State.setPair_pc _ rp v, hadvance.trans hframe, hrest⟩

/-- Settles O30: pair writes, SP among the pairs; the word's `+` and `-` wrap. -/
theorem incrementAndDecrementPair : Obligations.IncrementAndDecrementPair := by
  intro rp s
  refine ⟨codedAs_tstates_exec_instr s (.inx rp) ?_, codedAs_tstates_exec_instr s (.dcx rp) ?_⟩
  · obtain ⟨hpair, hrest⟩ := s.advance_setPair_effect rp (s.getPair rp + 1) (t := opInx rp s) rfl
    exact ⟨(congrArg BitVec.toNat hpair).trans (BitVec.toNat_add _ _), hrest⟩
  · obtain ⟨hpair, hrest⟩ := s.advance_setPair_effect rp (s.getPair rp - 1) (t := opDcx rp s) rfl
    refine ⟨?_, hrest⟩
    rw [runForm, hpair]
    bv_omega

/-- Settles O31: HL is a pair write of the sum, and setting CY after it leaves all else, the other flags among it. -/
theorem addPairToHL : Obligations.AddPairToHL := by
  intro rp s
  refine codedAs_tstates_exec_instr s (.dad rp) ?_
  obtain ⟨hsum, hcarry⟩ := dad16_spec s.hl (s.getPair rp)
  obtain ⟨hhl, hpc, hframe, hsp, -, hio⟩ := s.advance_setPair_effect .hl (dad16 s.hl (s.getPair rp)).1 rfl
  exact ⟨(congrArg BitVec.toNat hhl).trans hsum, hcarry, rfl, rfl, rfl, rfl, hpc, hframe, hsp (by decide), hio⟩

end Sys2Proof.Machine
end

section
/-! Logical, compare, rotate and flag instructions (R600 to R642). ANA, XRA, ORA and their immediate forms write a result
into A and the flags; a comparison writes A back as it was. A rotate writes A and CY, and CMA, CMC and STC write one of the
two. -/

namespace Sys2Proof.Machine

variable (s : State)

/-! ## AND, XOR and OR (R600) -/

/-- Settles O33: the conjunction with an operand and with an immediate, AC under the mode the core was constructed with. -/
theorem andInstructions : Obligations.AndInstructions := by
  intro s
  refine ⟨fun x => codedAs_tstates_exec_byOperand s (.alu .ana x) (fun _ => rfl) ?_,
    fun v => codedAs_tstates_exec_instr s (.aluImm .ana v) ?_⟩
  · exact ⟨and8_spec _ _ _, s.advance_setAlu_effect 1 _⟩
  · exact ⟨and8_spec _ _ _, s.advance_setAlu_effect 2 _⟩

/-- What a result with CY and AC cleared, written after PC has moved on, leaves. -/
theorem State.advance_setAlu_logicLeaves_effect (len : Nat) {r : AluResult} {v : Byte}
    (hr : r.value = v ∧ LogicLeaves v r.flags) {t : State} (ht : t = (s.advance len).setAlu r) :
    t.getReg .a = v ∧ LogicLeaves (t.getReg .a) t.flags ∧ t.pc = s.pc + BitVec.ofNat 16 len ∧ AluFrame s t := by
  subst ht
  obtain ⟨rfl, hleaves⟩ := hr
  exact ⟨rfl, hleaves, s.advance_setAlu_effect len r⟩

/-- Settles O34: each of the two operations, with an operand and with an immediate. -/
theorem xorAndOrInstructions : Obligations.XorAndOrInstructions := by
  intro s
  refine ⟨fun x => ⟨codedAs_tstates_exec_byOperand s (.alu .xra x) (fun _ => rfl) ?_,
      codedAs_tstates_exec_byOperand s (.alu .ora x) (fun _ => rfl) ?_⟩,
    fun v => ⟨codedAs_tstates_exec_instr s (.aluImm .xra v) ?_, codedAs_tstates_exec_instr s (.aluImm .ora v) ?_⟩⟩
  · exact s.advance_setAlu_logicLeaves_effect 1 (xor8_spec _ _) rfl
  · exact s.advance_setAlu_logicLeaves_effect 1 (or8_spec _ _) rfl
  · exact s.advance_setAlu_logicLeaves_effect 2 (xor8_spec _ _) rfl
  · exact s.advance_setAlu_logicLeaves_effect 2 (or8_spec _ _) rfl

/-! ## CMP and CPI (R601) -/

/-- CY of a subtraction without borrow-in is the unsigned comparison. -/
theorem SubLeaves.cy_iff_lt {mode : AcSubMode} {a b r : Byte} {f : Flags} (h : SubLeaves mode a b false r f) :
    f.cy = true ↔ a.toNat < b.toNat := by
  obtain ⟨-, hcy, -⟩ := h
  exact hcy

/-- Z of a subtraction without borrow-in is equality: bytes whose difference is 0 modulo 256 are the same. -/
theorem SubLeaves.z_iff_eq {mode : AcSubMode} {a b r : Byte} {f : Flags} (h : SubLeaves mode a b false r f) :
    f.z = true ↔ a = b := by
  obtain ⟨hdiff, -, -, -, -, hz, -⟩ := h
  rw [Bool.toNat_false, Nat.add_zero] at hdiff
  rw [hz]
  bv_omega

/-- A register that reads as before need not be listed in the frame. -/
theorem Frame.of_getReg_eq {s t : State} {r : Reg8} {regs : List Reg8} {stored : List Word}
    (h : Frame s t (r :: regs) stored) (hr : t.getReg r = s.getReg r) : Frame s t regs stored := by
  obtain ⟨⟨hreg, hbyte, hparams⟩, hcontrol⟩ := h
  refine ⟨⟨fun q hq => ?_, hbyte, hparams⟩, hcontrol⟩
  by_cases hqr : q = r
  · rw [hqr, hr]
  · exact hreg q (List.not_mem_cons_of_ne_of_not_mem hqr hq)

/-- What CMP and CPI leave of the second operand `b`: A is written with its own value, so it needs no place in the frame. -/
theorem State.advance_setAlu_cmp8_effect (len : Nat) (mode : AcSubMode) (b : Byte) {t : State}
    (ht : t = (s.advance len).setAlu (cmp8 mode (s.getReg .a) b)) :
    (∃ r, SubLeaves mode (s.getReg .a) b false r t.flags) ∧ (t.flags.cy = true ↔ (s.getReg .a).toNat < b.toNat) ∧
      (t.flags.z = true ↔ s.getReg .a = b) ∧ t.pc = s.pc + BitVec.ofNat 16 len ∧ Frame s t [] [] ∧ t.sp = s.sp ∧
      t.io = s.io := by
  subst ht
  obtain ⟨hvalue, hleaves⟩ := cmp8_spec mode (s.getReg .a) b
  obtain ⟨hpc, hframe, hsp, hio⟩ := s.advance_setAlu_effect len (cmp8 mode (s.getReg .a) b)
  exact ⟨⟨_, hleaves⟩, hleaves.cy_iff_lt, hleaves.z_iff_eq, hpc, hframe.of_getReg_eq hvalue, hsp, hio⟩

/-- Settles O35: the comparison with an operand and with an immediate. -/
theorem compareInstructions : Obligations.CompareInstructions := by
  intro s
  refine ⟨fun x => codedAs_tstates_exec_byOperand s (.alu .cmp x) (fun _ => rfl) ?_,
    fun v => codedAs_tstates_exec_instr s (.aluImm .cmp v) ?_⟩
  · exact s.advance_setAlu_cmp8_effect 1 _ _ rfl
  · exact s.advance_setAlu_cmp8_effect 2 _ _ rfl

/-! ## Rotates (R602) -/

theorem toNat_flagBit (b : Bool) {i : Nat} (hi : i < 8) : (flagBit b i).toNat = b.toNat * 2 ^ i := by
  cases b with
  | false => simp [flagBit]
  | true => interval_cases i <;> rfl

/-- Bit 0 of a byte shifted left is clear, so a bit that enters there adds its own value. -/
theorem toNat_shiftLeft_or_flagBit (a : Byte) (b : Bool) :
    (a <<< 1 ||| flagBit b 0).toNat = (a.toNat * 2 + b.toNat) % 256 := by
  have hb : b.toNat < 2 ^ 1 := b.toNat_lt
  have hshift : (a <<< 1).toNat = 2 ^ 1 * (a.toNat % 128) := by
    rw [BitVec.toNat_shiftLeft, Nat.shiftLeft_eq]
    omega
  rw [BitVec.toNat_or, hshift, toNat_flagBit b (by decide), pow_zero, mul_one, ← Nat.two_pow_add_eq_or_of_lt hb]
  omega

/-- Bit 7 of a byte shifted right is clear, so a bit that enters there adds 128. -/
theorem toNat_ushiftRight_or_flagBit (a : Byte) (b : Bool) :
    (a >>> 1 ||| flagBit b 7).toNat = a.toNat / 2 + b.toNat * 128 := by
  have hshift : (a >>> 1).toNat < 2 ^ 7 := by
    rw [BitVec.toNat_ushiftRight, Nat.shiftRight_one]
    omega
  rw [BitVec.toNat_or, toNat_flagBit b (by decide), Nat.or_comm, Nat.mul_comm, ← Nat.two_pow_add_eq_or_of_lt hshift,
    BitVec.toNat_ushiftRight, Nat.shiftRight_one]
  omega

theorem toNat_getLsbD_seven (a : Byte) : (a.getLsbD 7).toNat = a.toNat / 128 := by
  have := a.isLt
  rw [BitVec.getLsbD, Nat.toNat_testBit]
  omega

theorem toNat_getLsbD_zero (a : Byte) : (a.getLsbD 0).toNat = a.toNat % 2 := by
  rw [BitVec.getLsbD, Nat.toNat_testBit, pow_zero, Nat.div_one]

/-- Setting CY changes no other flag and nothing else. -/
theorem State.setCarry_frame (cy : Bool) :
    Frame s (s.setCarry cy) [] [] ∧ (s.setCarry cy).sp = s.sp ∧ (s.setCarry cy).io = s.io :=
  s.setFlags_frame { s.flags with cy := cy }

/-- What a rotate leaves: the byte in A, a number `n`, and the bit in CY; no other flag is written. -/
theorem State.rotate_effect (r : Byte × Bool) {n : Nat} (hn : r.1.toNat = n) :
    ((s.rotate r).getReg .a).toNat = n ∧ (s.rotate r).flags = { s.flags with cy := r.2 } ∧
      (s.rotate r).pc = s.pc + 1 ∧ AluFrame s (s.rotate r) := by
  obtain ⟨hframe, hsp, -, hio⟩ := (s.advance_plainFrame 1).trans ((s.advance 1).setReg_plainFrame .a r.1)
  obtain ⟨hcarry, hsp', hio'⟩ := ((s.advance 1).setReg .a r.1).setCarry_frame r.2
  exact ⟨hn, rfl, rfl, hframe.trans hcarry, hsp'.trans hsp, hio'.trans hio⟩

/-- Settles O36: the bit that enters is the one shifted out (RLC, RRC) or the old CY (RAL, RAR). -/
theorem rotateInstructions : Obligations.RotateInstructions := by
  intro s
  refine ⟨codedAs_tstates_exec_instr s .rlc ?_, codedAs_tstates_exec_instr s .rrc ?_,
    codedAs_tstates_exec_instr s .ral ?_, codedAs_tstates_exec_instr s .rar ?_⟩
  · refine s.rotate_effect (rlc8 _) ?_
    rw [rlc8, toNat_shiftLeft_or_flagBit, toNat_getLsbD_seven]
  · refine s.rotate_effect (rrc8 _) ?_
    rw [rrc8, toNat_ushiftRight_or_flagBit, toNat_getLsbD_zero]
  · exact s.rotate_effect (ral8 _ _) (toNat_shiftLeft_or_flagBit _ _)
  · exact s.rotate_effect (rar8 _ _) (toNat_ushiftRight_or_flagBit _ _)

/-! ## CMA, CMC and STC (R640 to R642) -/

/-- What CMC and STC leave: CY alone is written. -/
theorem State.advance_setCarry_effect (len : Nat) (cy : Bool) :
    ((s.advance len).setCarry cy).flags = { s.flags with cy := cy } ∧
      ((s.advance len).setCarry cy).pc = s.pc + BitVec.ofNat 16 len ∧ Frame s ((s.advance len).setCarry cy) [] [] ∧
      ((s.advance len).setCarry cy).sp = s.sp ∧ ((s.advance len).setCarry cy).io = s.io := by
  obtain ⟨hadvance, -⟩ := s.advance_plainFrame len
  obtain ⟨hcarry, hsp, hio⟩ := (s.advance len).setCarry_frame cy
  exact ⟨by simp, by simp, hadvance.trans hcarry, hsp, hio⟩

/-- Settles O37: CMA is a write to A, CMC and STC are writes to CY. -/
theorem complementAndCarryInstructions : Obligations.ComplementAndCarryInstructions := by
  intro s
  refine ⟨codedAs_tstates_exec_instr s .cma ?_, codedAs_tstates_exec_instr s .cmc ?_,
    codedAs_tstates_exec_instr s .stc ?_⟩
  · obtain ⟨ha, hpc, hframe⟩ := s.advance_setReg_effect 1 .a (~~~(s.getReg .a))
    exact ⟨(congrArg BitVec.toNat ha).trans BitVec.toNat_not, hpc, hframe⟩
  · exact s.advance_setCarry_effect 1 _
  · exact s.advance_setCarry_effect 1 _

end Sys2Proof.Machine
end

section
/-! Branch, call, return and restart (R700 to R712). A jump sets PC, a call and a restart push the address after the
instruction and then set PC, a return takes PC from the stack; a conditional instruction does that of the unconditional
one or moves PC past itself. -/

namespace Sys2Proof.Machine

variable (s : State)

/-! ## Frames of PC, SP and the stack -/

/-- Setting PC changes nothing else (R113). -/
theorem State.setPc_plainFrame (v : Word) : PlainFrame s (s.setPc v) [] [] := by
  simp [PlainFrame, Frame, KeepsData, KeepsControl]

/-- Setting SP changes nothing else (R112). -/
theorem State.setSp_frame (v : Word) :
    Frame s (s.setSp v) [] [] ∧ (s.setSp v).flags = s.flags ∧ (s.setSp v).io = s.io := by
  simp [Frame, KeepsData, KeepsControl]

/-- A push writes the high byte at SP-1: the write of the low byte after it is at another address, also where SP wraps. -/
theorem State.push16_readByte_high (v : Word) : (s.push16 v).readByte (s.sp - 1) = hiByte v := by
  have hne : s.sp - 1 ≠ s.sp - 2 := by bv_omega
  rw [State.push16_readByte, if_neg hne, if_pos rfl]

theorem State.push16_readByte_low (v : Word) : (s.push16 v).readByte (s.sp - 2) = loByte v := by
  rw [State.push16_readByte, if_pos rfl]

/-- A push changes SP and the two bytes below it, and nothing else (R801). -/
theorem State.push16_frame (v : Word) :
    Frame s (s.push16 v) [] [s.sp - 1, s.sp - 2] ∧ (s.push16 v).flags = s.flags ∧ (s.push16 v).io = s.io := by
  have hbyte : ∀ a, a ∉ [s.sp - 1, s.sp - 2] → (s.push16 v).readByte a = s.readByte a := fun a ha => by
    obtain ⟨hhigh, hlow⟩ : a ≠ s.sp - 1 ∧ a ≠ s.sp - 2 := by simpa using ha
    rw [State.push16_readByte, if_neg hlow, if_neg hhigh]
  exact ⟨⟨⟨by simp, hbyte, by simp⟩, by simp [KeepsControl]⟩, by simp, by simp⟩

/-! ## The two ways of a condition (R700) -/

variable (cc : Cond) (addr : Word)

/-- What a conditional instruction chooses, by the flag that the condition names. -/
theorem ite_condHolds {α : Type} (f : Flags) (x y : α) :
    (if condHolds cc f then x else y) = if CondTrue cc f then x else y :=
  if_congr (condHolds_iff cc f) rfl rfl

theorem tstates_jccInstr (f : Flags) : tstates (jccInstr cc addr) f = 10 := tstates_instr (.jcc cc addr) f

theorem tstates_cccInstr (f : Flags) : tstates (cccInstr cc addr) f = if CondTrue cc f then 17 else 11 :=
  (tstates_instr (.ccc cc addr) f).trans (ite_condHolds cc f _ _)

theorem tstates_rccInstr (f : Flags) : tstates (rccInstr cc) f = if CondTrue cc f then 11 else 5 :=
  (tstates_instr (.rcc cc) f).trans (ite_condHolds cc f _ _)

theorem exec_cccInstr :
    exec (cccInstr cc addr) s = .next (if CondTrue cc s.flags then opCall addr s else s.advance 3) :=
  (exec_instr (.ccc cc addr) s).trans (congrArg _ (ite_condHolds cc s.flags _ _))

theorem exec_rccInstr : exec (rccInstr cc) s = .next (if CondTrue cc s.flags then opRet s else s.advance 1) :=
  (exec_instr (.rcc cc) s).trans (congrArg _ (ite_condHolds cc s.flags _ _))

/-- The accesses of a form's constructor are those of the form (R211). -/
theorem dataAccesses_instr (f : Form) : dataAccesses f.instr s = Form.accesses f s := by
  rw [dataAccesses, form_instr]

variable {cc}

/-- A call that is not taken pushes nothing (R704). -/
theorem dataAccesses_cccInstr_of_not (h : ¬ CondTrue cc s.flags) : dataAccesses (cccInstr cc addr) s = [] :=
  (dataAccesses_instr s (.ccc cc addr)).trans ((ite_condHolds cc s.flags _ _).trans (if_neg h))

/-- A return that is not taken reads nothing (R706). -/
theorem dataAccesses_rccInstr_of_not (h : ¬ CondTrue cc s.flags) : dataAccesses (rccInstr cc) s = [] :=
  (dataAccesses_instr s (.rcc cc)).trans ((ite_condHolds cc s.flags _ _).trans (if_neg h))

/-! ## Jumps and PCHL (R701, R702, R708) -/

theorem State.advance_setPc_effect (len : Nat) (v : Word) :
    ((s.advance len).setPc v).pc = v ∧ PlainFrame s ((s.advance len).setPc v) [] [] :=
  ⟨State.setPc_pc _ v, (s.advance_plainFrame len).trans (State.setPc_plainFrame _ v)⟩

/-- A conditional jump sets PC on the one way and moves it past the instruction on the other; neither way changes
anything else. -/
theorem opJcc_effect (cc : Cond) :
    (opJcc cc addr s).pc = (if CondTrue cc s.flags then addr else s.pc + 3) ∧ PlainFrame s (opJcc cc addr s) [] [] := by
  rw [opJcc, ite_condHolds]
  split
  · exact s.advance_setPc_effect 3 addr
  · exact ⟨s.advance_pc 3, s.advance_plainFrame 3⟩

/-- The duplicate opcode byte CB of JMP, with the bytes of an address after it (R321). -/
theorem decodeOp_jmp_duplicate : decodeOp 0xCB (loByte addr) (hiByte addr) = .jmp addr := by
  obtain ⟨-, ⟨hdecode, -⟩, -⟩ := aliasesDecodeToCanonical (loByte addr) (hiByte addr) .reset
  rw [hdecode, ofBytes_hiByte_loByte]

/-- Settles O38: a jump, and the choice between a jump and the next instruction. -/
theorem jumpInstructions : Obligations.JumpInstructions := by
  intro addr s
  refine ⟨⟨codedAs_instr (.jmp addr), decodeOp_jmp_duplicate addr, tstates_instr (.jmp addr), _,
    exec_instr (.jmp addr) s, s.advance_setPc_effect 3 addr⟩, fun cc => ?_⟩
  exact ⟨codedAs_instr (.jcc cc addr), tstates_jccInstr cc addr, _, exec_instr (.jcc cc addr) s, opJcc_effect s addr cc⟩

/-- Settles O42: PCHL is a jump, SPHL a write to SP. -/
theorem moveHLToPcOrSp : Obligations.MoveHLToPcOrSp := by
  intro s
  obtain ⟨hadvance, -⟩ := s.advance_plainFrame 1
  obtain ⟨hframe, hrest⟩ := (s.advance 1).setSp_frame s.hl
  exact ⟨⟨codedAs_instr .pchl, tstates_instr .pchl, rfl, _, exec_instr .pchl s, s.advance_setPc_effect 1 s.hl⟩,
    codedAs_instr .sphl, tstates_instr .sphl, _, exec_instr .sphl s, rfl, rfl, hadvance.trans hframe, hrest⟩

/-! ## Calls and restarts (R703, R704, R707) -/

/-- What a call of `target` leaves: PC there, and the address after the instruction pushed. -/
theorem State.advance_push16_setPc_effect (len : Nat) (target : Word) {t : State}
    (ht : t = ((s.advance len).push16 (s.advance len).pc).setPc target) :
    t.pc = target ∧ t.sp = s.sp - 2 ∧ t.readByte (s.sp - 1) = hiByte (s.pc + BitVec.ofNat 16 len) ∧
      t.readByte (s.sp - 2) = loByte (s.pc + BitVec.ofNat 16 len) ∧ Frame s t [] [s.sp - 1, s.sp - 2] ∧
      t.flags = s.flags ∧ t.io = s.io := by
  subst ht
  obtain ⟨hadvance, -⟩ := s.advance_plainFrame len
  obtain ⟨hpush, hflags, hio⟩ := (s.advance len).push16_frame (s.advance len).pc
  obtain ⟨hjump, -⟩ := ((s.advance len).push16 (s.advance len).pc).setPc_plainFrame target
  have hhigh := (s.advance len).push16_readByte_high (s.advance len).pc
  have hlow := (s.advance len).push16_readByte_low (s.advance len).pc
  exact ⟨rfl, by simp, hhigh, hlow, (hadvance.trans hpush).trans hjump, hflags, hio⟩

/-- The duplicate opcode bytes of CALL, with the bytes of an address after them (R321). -/
theorem decodeOp_call_duplicate {op : Byte} (hop : op ∈ ([0xDD, 0xED, 0xFD] : List Byte)) :
    decodeOp op (loByte addr) (hiByte addr) = .call addr := by
  obtain ⟨-, -, -, hcall⟩ := aliasesDecodeToCanonical (loByte addr) (hiByte addr) .reset
  obtain ⟨hdecode, -⟩ := hcall op hop
  rw [hdecode, ofBytes_hiByte_loByte]

/-- Settles O39: a call, and the choice between a call and the next instruction. -/
theorem callInstructions : Obligations.CallInstructions := by
  intro addr s
  have hcall := s.advance_push16_setPc_effect 3 addr (t := opCall addr s) rfl
  refine ⟨⟨codedAs_instr (.call addr), fun op hop => decodeOp_call_duplicate addr hop, tstates_instr (.call addr), _,
    exec_instr (.call addr) s, hcall⟩, fun cc => ?_⟩
  refine ⟨codedAs_instr (.ccc cc addr), tstates_cccInstr cc addr, fun htaken => ?_, fun hnot => ?_⟩
  · exact ⟨opCall addr s, by rw [exec_cccInstr, if_pos htaken], hcall⟩
  · refine ⟨dataAccesses_cccInstr_of_not s addr hnot, s.advance 3, ?_, s.advance_pc 3, s.advance_plainFrame 3⟩
    rw [exec_cccInstr, if_neg hnot]

/-- The opcode byte of RST n is C7 with n in bits 5:3 (R302, R307). -/
theorem opcodeOf_rst (n : Fin 8) : opcodeOf 0b11 (BitVec.ofFin n) 0b111 = BitVec.ofNat 8 (0xC7 + 8 * n.val) := by
  revert n
  decide

/-- Settles O41: a call of the vector. -/
theorem restartInstruction : Obligations.RestartInstruction := by
  intro n s
  obtain ⟨hpc, hrest⟩ := s.advance_push16_setPc_effect 1 (vector n) (t := opRst n s) rfl
  rw [← opcodeOf_rst]
  refine codedAs_tstates_exec_instr s (.rst n) ⟨?_, hrest⟩
  exact (congrArg BitVec.toNat hpc).trans (vector_toNat n)

/-! ## Returns (R705, R706) -/

/-- What a return leaves: PC at the word that SP pointed to, and SP past it. -/
theorem opRet_effect :
    (opRet s).pc = ofBytes (s.readByte (s.sp + 1)) (s.readByte s.sp) ∧ (opRet s).sp = s.sp + 2 ∧
      Frame s (opRet s) [] [] ∧ (opRet s).flags = s.flags ∧ (opRet s).io = s.io := by
  obtain ⟨hadvance, -⟩ := s.advance_plainFrame 1
  obtain ⟨hdrop, hflags, hio⟩ := (s.advance 1).setSp_frame (s.sp + 1 + 1)
  obtain ⟨hjump, -⟩ := (s.advance 1).dropTop.setPc_plainFrame (s.advance 1).top16
  exact ⟨rfl, State.returnToTop_sp _, (hadvance.trans hdrop).trans hjump, hflags, hio⟩

/-- Settles O40: a return, and the choice between a return and the next instruction. -/
theorem returnInstructions : Obligations.ReturnInstructions := by
  intro s
  refine ⟨⟨codedAs_instr .ret, rfl, tstates_instr .ret, _, exec_instr .ret s, opRet_effect s⟩, fun cc => ?_⟩
  refine ⟨codedAs_instr (.rcc cc), tstates_rccInstr cc, fun htaken => ?_, fun hnot => ?_⟩
  · exact ⟨opRet s, by rw [exec_rccInstr, if_pos htaken], opRet_effect s⟩
  · refine ⟨dataAccesses_rccInstr_of_not s hnot, s.advance 1, ?_, s.advance_pc 1, s.advance_plainFrame 1⟩
    rw [exec_rccInstr, if_neg hnot]

/-! ## Costs (R712, R821) -/

/-- The table's costs lie from 4 (NOP, for one) to 18 (XTHL); the operand and the way taken choose between two of them. -/
theorem Form.tstates_range (i : Form) (f : Flags) : 4 ≤ Form.tstates i f ∧ Form.tstates i f ≤ 18 := by
  cases i with
  | alu _ x | inr x | dcr x => cases x <;> simp [Form.tstates, byOperand]
  | ccc cc _ | rcc cc =>
    rw [Form.tstates]
    split <;> decide
  | _ => simp [Form.tstates]

/-- What a running step returns: the fetched instruction, and its cost under the flags before the step. -/
theorem stepResult_running (h : s.halted = false) : stepResult s = .ok s.fetch (tstates s.fetch s.flags) := by
  simp [stepResult, h]

/-- Settles O60: the costs of the two ways, what the step reports, and the range of the table. -/
theorem stepCosts : Obligations.StepCosts :=
  ⟨fun cc addr f => ⟨tstates_rccInstr cc f, tstates_cccInstr cc addr f, tstates_jccInstr cc addr f⟩, stepResult_running,
    fun i f => Form.tstates_range i.form f⟩

end Sys2Proof.Machine
end

section
/-! The step and the run (R820 to R823): what the step of a running core and of a halted core answers, and what a sequence
of host operations makes of that. -/

namespace Sys2Proof.Machine

variable (s : State)

/-! ## One step (R820, R822) -/

/-- The fetch takes the instruction that a decoder reads from the three bytes at PC (R324). -/
theorem State.fetch_of_decode {i : Instr} {rest : List Byte}
    (h : decode [s.readByte s.pc, s.readByte (s.pc + 1), s.readByte (s.pc + 2)] = .ok (i, rest)) : s.fetch = i := by
  rw [decode_cons_cons_cons, Except.ok.injEq, Prod.mk.injEq] at h
  exact h.left

/-- Settles O6: the decoded instruction is the fetched one, and what `exec` answers is what the running step retires. -/
theorem stepRunsFetchedInstruction : Obligations.StepRunsFetchedInstruction := by
  intro s t i rest hrunning hdecode hexec
  obtain rfl := s.fetch_of_decode hdecode
  refine ⟨?_, stepResult_running s hrunning⟩
  rw [step_running s hrunning, ← exec_next _ s t hexec]
  rfl

variable {s}

theorem stepAccesses_halted (h : s.halted = true) : stepAccesses s = [] := if_pos h

theorem stepResult_halted (h : s.halted = true) : stepResult s = .halted := if_pos h

/-- Settles O7: each of the three answers of a halted step. -/
theorem haltedStepChangesNothing : Obligations.HaltedStepChangesNothing :=
  fun s h => ⟨step_halted s h, stepAccesses_halted h, stepResult_halted h⟩

/-! ## The host's steps and interrupt requests (R821, R911) -/

variable {t : State} {act : HostAction} {reply : HostReply}

theorem hostAct_step (h : step s = .next t) : hostAct .step s = .next (.stepped (stepResult s), t) := by
  simp only [hostAct, h]

theorem hostAct_step_halted (h : s.halted = true) : hostAct .step s = .next (.stepped .halted, s) := by
  rw [hostAct_step (step_halted s h), stepResult_halted h]

theorem State.canAccept_of_inte (h : s.inte = false) : s.canAccept = false := by
  simp [State.canAccept, h]

/-- A refused request leaves the state (R911). -/
theorem hostAct_interrupt_refused (h : s.canAccept = false) (n : Fin 8) :
    hostAct (.interrupt n) s = .next (.notAccepted, s) := by
  simp [hostAct, State.interrupt, h]

/-! ## Runs and sequences (R823) -/

/-- A step that returns Halted ends the run, whatever was to follow. -/
theorem hostRun_cons_of_halted (h : hostAct act s = .next (.stepped .halted, t)) (rest : List HostAction) :
    hostRun (act :: rest) s = .next { state := t, replies := [.stepped .halted], ended := true } := by
  simp [hostRun, h]

/-- After any other reply the run goes on. -/
theorem hostRun_cons_of_ne {rest : List HostAction} {run : Run} (h : hostAct act s = .next (reply, t))
    (hreply : reply ≠ .stepped .halted) (hrun : hostRun rest t = .next run) :
    hostRun (act :: rest) s = .next { run with replies := reply :: run.replies } := by
  simp [hostRun, h, hreply, hrun]

/-- Settles O9: the HLT step, which is still an ordinary step, and then a halted one. -/
theorem hltEndsRun : Obligations.HltEndsRun := by
  intro s rest hrunning hfetch
  have hstep : step s = .next ((opHlt s).retire .hlt) := by
    rw [step_running s hrunning, hfetch]
    rfl
  have hresult : stepResult s = .ok .hlt 7 := by
    rw [stepResult_running s hrunning, hfetch]
    rfl
  have hact : hostAct .step s = .next (.stepped (.ok .hlt 7), (opHlt s).retire .hlt) := by
    rw [hostAct_step hstep, hresult]
  exact ⟨_, hstep, rfl, rfl, hostRun_cons_of_ne hact (by simp) (hostRun_cons_of_halted (hostAct_step_halted rfl) rest)⟩

/-- Operations that all leave the state leave it together, and each gives the reply it gives alone. -/
theorem hostTrace_of_forall_fixed {replyOf : HostAction → HostReply} {acts : List HostAction}
    (h : ∀ act ∈ acts, hostAct act s = .next (replyOf act, s)) : hostTrace acts s = .next (acts.map replyOf, s) := by
  induction acts with
  | nil => rfl
  | cons act rest ih =>
    obtain ⟨hact, hrest⟩ := List.forall_mem_cons.mp h
    simp [hostTrace, hact, ih hrest]

/-- Settles O10: the state is a fixed point of a step, since it is halted, and of a request, since interrupts are off. -/
theorem haltedForGood : Obligations.HaltedForGood := by
  intro acts s hhalted hinte hacts
  refine hostTrace_of_forall_fixed fun act hact => ?_
  obtain rfl | ⟨n, rfl⟩ := hacts act hact
  · exact hostAct_step_halted hhalted
  · exact hostAct_interrupt_refused (State.canAccept_of_inte hinte) n

end Sys2Proof.Machine
end

section
/-! The stack (R801 to R807). PUSH is a push of a pair, POP a write of a pair and a move of SP, XTHL a word write at SP and
a write of HL. -/

namespace Sys2Proof.Machine

variable (s : State)

/-- What an instruction of a form answers is what its form's rule gives. -/
theorem eq_runForm_of_exec_instr {s t : State} {f : Form} (h : exec f.instr s = .next t) : t = runForm f s := by
  rw [exec_next _ s t h, form_instr]

/-! ## Writing the pair of a POP (R304, R805, R806) -/

theorem State.setStackPair_sp (rp : StackPair) (w : Word) : (s.setStackPair rp w).sp = s.sp := by
  cases rp <;> simp [State.setStackPair]

theorem State.setStackPair_pc (rp : StackPair) (w : Word) : (s.setStackPair rp w).pc = s.pc := by
  cases rp <;> simp [State.setStackPair]

theorem State.setStackPair_io (rp : StackPair) (w : Word) : (s.setStackPair rp w).io = s.io := by
  cases rp <;> simp [State.setStackPair]

variable {rp : StackPair}

theorem State.setStackPair_flags (h : rp ≠ .psw) (w : Word) : (s.setStackPair rp w).flags = s.flags := by
  cases rp with
  | psw => exact absurd rfl h
  | _ => simp [State.setStackPair]

/-- A pair other than PSW holds the word written to it. -/
theorem State.setStackPair_getStackPair (h : rp ≠ .psw) (w : Word) : (s.setStackPair rp w).getStackPair rp = w := by
  cases rp with
  | bc => exact s.bc_setBc w
  | de => exact s.de_setDe w
  | hl => exact s.hl_setHl w
  | psw => exact absurd rfl h

/-- PSW holds the word written to it but for bits 5, 3 and 1, which are no state (R15). -/
theorem State.setPsw_psw (w : Word) : (s.setPsw w).psw = ofBytes (hiByte w) ((loByte w &&& 0xD5) ||| 0x02) := by
  rw [State.psw, State.setPsw_getReg, if_pos rfl, State.setPsw_flags, Flags.pack_unpack]

variable (rp)

/-- Writing a pair changes its registers, the flags for PSW, and nothing else. -/
theorem State.setStackPair_frame (w : Word) : Frame s (s.setStackPair rp w) (stackPairRegs rp) [] := by
  cases rp with
  | bc => exact (s.setReg_setReg_plainFrame .b .c _ _).left
  | de => exact (s.setReg_setReg_plainFrame .d .e _ _).left
  | hl => exact (s.setReg_setReg_plainFrame .h .l _ _).left
  | psw =>
    obtain ⟨hflags, -⟩ := s.setFlags_frame (.unpack (loByte w))
    obtain ⟨ha, -⟩ := (s.setFlags (.unpack (loByte w))).setReg_plainFrame .a (hiByte w)
    exact hflags.trans ha

/-! ## PUSH and POP (R803 to R806) -/

/-- Settles O43: a push of the pair, PC moved on; the halves of PSW are A and the packed flags. -/
theorem pushInstructions : Obligations.PushInstructions := by
  intro rp s
  refine codedAs_tstates_exec_instr s (.push rp) ?_
  obtain ⟨hadvance, -⟩ := s.advance_plainFrame 1
  obtain ⟨hpush, hflags, hio⟩ := (s.advance 1).push16_frame (s.getStackPair rp)
  have hhigh := (s.advance 1).push16_readByte_high (s.getStackPair rp)
  have hlow := (s.advance 1).push16_readByte_low (s.getStackPair rp)
  refine ⟨State.push16_sp _ _, State.push16_top16 _ _, hhigh, hlow, ?_, rfl, hadvance.trans hpush, hflags, hio⟩
  rintro rfl
  exact ⟨hhigh.trans (hiByte_ofBytes _ _), hlow.trans (loByte_ofBytes _ _)⟩

theorem opPop_sp : (opPop rp s).sp = s.sp + 2 := by
  rw [opPop, State.setStackPair_sp, State.dropTop_sp, State.advance_sp]

theorem opPop_frame : Frame s (opPop rp s) (stackPairRegs rp) [] := by
  obtain ⟨hadvance, -⟩ := s.advance_plainFrame 1
  obtain ⟨hdrop, -⟩ := (s.advance 1).setSp_frame (s.sp + 1 + 1)
  exact (hadvance.trans hdrop).trans (State.setStackPair_frame _ rp _)

theorem opPop_psw_getReg_a : (opPop .psw s).getReg .a = s.readByte (s.sp + 1) := hiByte_ofBytes _ _

theorem opPop_psw_flags : (opPop .psw s).flags = .unpack (s.readByte s.sp) := congrArg Flags.unpack (loByte_ofBytes _ _)

/-- Settles O44: the word at SP goes to the pair; the flags of PSW are the low byte unpacked. -/
theorem popInstructions : Obligations.PopInstructions := by
  intro rp s
  refine codedAs_tstates_exec_instr s (.pop rp) ⟨opPop_sp s rp, fun hrp => ?_, ?_, ?_, opPop_frame s rp, ?_⟩
  · exact ⟨State.setStackPair_getStackPair _ hrp _, State.setStackPair_flags _ hrp _⟩
  · rintro rfl
    rw [runForm, opPop_psw_flags]
    exact ⟨opPop_psw_getReg_a s, rfl, rfl, rfl, rfl, rfl⟩
  · exact State.setStackPair_pc _ rp _
  · exact State.setStackPair_io _ rp _

/-- Settles O45: the word that POP writes to its pair is the pushed one, and SP moves up as far as it went down. -/
theorem stackRoundTrip : Obligations.StackRoundTrip := by
  intro rp rp' s t u hpush hpop
  obtain rfl : t = opPush rp s := eq_runForm_of_exec_instr (f := .push rp) hpush
  obtain rfl : u = opPop rp' (opPush rp s) := eq_runForm_of_exec_instr (f := .pop rp') hpop
  have htop : (opPush rp s).top16 = s.getStackPair rp := State.push16_top16 _ _
  refine ⟨?_, fun hrp => ?_, ?_⟩
  · rw [opPop_sp, ← State.dropTop_sp]
    exact (s.advance 1).push16_dropTop_sp (s.getStackPair rp)
  · rw [opPop, htop, State.setStackPair_getStackPair _ hrp]
  · rintro rfl
    rw [opPop, htop]
    exact State.setPsw_psw _ _

/-! ## XTHL (R807) -/

theorem State.writeWord_readByte_low (a v : Word) : (s.writeWord a v).readByte a = loByte v := by
  rw [State.writeWord_readByte, if_neg (succ_ne_self a).symm, if_pos rfl]

theorem State.writeWord_readByte_high (a v : Word) : (s.writeWord a v).readByte (a + 1) = hiByte v := by
  rw [State.writeWord_readByte, if_pos rfl]

theorem opXthl_readByte_low : (opXthl s).readByte s.sp = s.getReg .l := by
  rw [opXthl, State.setHl_readByte, State.writeWord_readByte_low]
  exact loByte_ofBytes _ _

theorem opXthl_readByte_high : (opXthl s).readByte (s.sp + 1) = s.getReg .h := by
  rw [opXthl, State.setHl_readByte, State.writeWord_readByte_high]
  exact hiByte_ofBytes _ _

theorem opXthl_plainFrame : PlainFrame s (opXthl s) [.h, .l] [s.sp, s.sp + 1] :=
  ((s.advance_plainFrame 1).trans (State.writeWord_plainFrame _ s.sp s.hl)).trans
    (State.setReg_setReg_plainFrame _ .h .l _ _)

/-- Settles O46: both words are read before either is written. -/
theorem exchangeStackTopWithHL : Obligations.ExchangeStackTopWithHL := by
  refine ⟨codedAs_instr .xthl, tstates_instr .xthl, fun s => ⟨opXthl s, exec_instr .xthl s, ?_⟩⟩
  exact ⟨loByte_ofBytes _ _, hiByte_ofBytes _ _, opXthl_readByte_low s, opXthl_readByte_high s, State.setHl_pc _ _,
    opXthl_plainFrame s⟩

end Sys2Proof.Machine
end

section
/-! The ports (R230, R231, R809, R810) and machine control (R811 to R814). -/

namespace Sys2Proof.Machine

variable (s : State)

/-! ## IN and OUT -/

/-- A port without a hook reads 0, one with a hook what the hook answers (R230). -/
theorem State.inputByte_eq_ite (port : Byte) :
    s.inputByte port = if port ∈ s.params.inHooks then Config.portIn port s.io else 0 := by
  simp [State.inputByte]

/-- Recording an event changes the I/O history and nothing else (R232). -/
theorem State.record_frame (ev : IoEvent) :
    Frame s (s.record ev) [] [] ∧ (s.record ev).sp = s.sp ∧ (s.record ev).flags = s.flags := by
  simp [Frame, KeepsData, KeepsControl]

/-- What IN and OUT share: PC moved on, then one event recorded. -/
theorem State.advance_record_frame (len : Nat) (ev : IoEvent) :
    Frame s ((s.advance len).record ev) [] [] ∧ ((s.advance len).record ev).sp = s.sp ∧
      ((s.advance len).record ev).flags = s.flags := by
  obtain ⟨hadvance, -⟩ := s.advance_plainFrame len
  obtain ⟨hrecord, hrest⟩ := (s.advance len).record_frame ev
  exact ⟨hadvance.trans hrecord, hrest⟩

/-- Settles O47: IN is an event and a write to A, OUT the event alone. -/
theorem portInstructions : Obligations.PortInstructions := by
  intro port s
  refine ⟨codedAs_tstates_exec_instr s (.inp port) ?_, codedAs_tstates_exec_instr s (.out port) ?_⟩
  · obtain ⟨hrecord, hsp, hflags⟩ := s.advance_record_frame 2 (.portIn port (s.inputByte port))
    obtain ⟨ha, hsp', hflags', -⟩ := ((s.advance 2).portRead port).setReg_plainFrame .a (s.inputByte port)
    exact ⟨s.inputByte_eq_ite port, runForm_inp_io s port, rfl, hrecord.trans ha, hsp'.trans hsp, hflags'.trans hflags⟩
  · exact ⟨runForm_out_io s port, rfl, s.advance_record_frame 2 _⟩

/-! ## EI, DI, HLT and NOP -/

/-- What EI, DI and HLT share: PC moved on, and control bits written, whichever they are. -/
theorem State.advance_control_effect {t : State} {halted inte eiDelay : Bool}
    (ht : t = { s.advance 1 with halted, inte, eiDelay }) :
    t.pc = s.pc + 1 ∧ KeepsData s t [] [] ∧ t.sp = s.sp ∧ t.flags = s.flags ∧ t.io = s.io := by
  subst ht
  obtain ⟨⟨hdata, -⟩, hrest⟩ := s.advance_plainFrame 1
  exact ⟨rfl, hdata, hrest⟩

/-- Settles O48: the control bits that EI and DI write; with `inte` off no request is accepted. -/
theorem interruptEnableInstructions : Obligations.InterruptEnableInstructions := by
  intro s
  refine ⟨codedAs_tstates_exec_instr s .ei ?_, codedAs_tstates_exec_instr s .di ?_⟩
  · exact ⟨rfl, rfl, rfl, s.advance_control_effect rfl⟩
  · obtain ⟨hpc, hdata, hsp, hflags, hio⟩ := s.advance_control_effect (t := opDi s) rfl
    exact ⟨rfl, rfl, rfl, hpc, hdata, hsp, hflags, hio, State.canAccept_of_inte rfl⟩

/-- The seven undocumented opcode bytes of NOP (R321). -/
theorem decodeOp_nop_duplicate {op : Byte} (hop : op ∈ ([0x08, 0x10, 0x18, 0x20, 0x28, 0x30, 0x38] : List Byte))
    (b1 b2 : Byte) : decodeOp op b1 b2 = .nop := by
  obtain ⟨hnop, -⟩ := aliasesDecodeToCanonical b1 b2 .reset
  obtain ⟨hdecode, -⟩ := hnop op hop
  exact hdecode

/-- Settles O49: HLT writes a control bit, and NOP only moves PC on. -/
theorem haltAndNoOperation : Obligations.HaltAndNoOperation := by
  intro s
  refine ⟨codedAs_tstates_exec_instr s .hlt ⟨rfl, rfl, rfl, s.advance_control_effect rfl⟩, codedAs_instr .nop,
    tstates_instr .nop, fun op hop => decodeOp_nop_duplicate hop 0 0, _, exec_instr .nop s, ?_⟩
  exact ⟨s.advance_pc 1, s.advance_plainFrame 1⟩

end Sys2Proof.Machine
end

section
/-! Exceptions and interrupts (R900, R901, R911 to R913): no instruction and no step has another answer than a next state;
when a request is accepted, and what acceptance makes of the state. -/

namespace Sys2Proof.Machine

variable (s : State)

/-! ## No fault and no refusal (R322, R900, R901) -/

/-- A halted step keeps its state, and a running one retires the fetched instruction. -/
theorem safeStep : SafeStep s := by
  cases hhalted : s.halted with
  | true => exact ⟨s, step_halted s hhalted⟩
  | false => exact ⟨_, step_running s hhalted⟩

/-- Settles O8: each instruction runs its form, each step is safe, and `Fault` has no constructor. -/
theorem everyStepAnswersNextState : Obligations.EveryStepAnswersNextState :=
  ⟨fun i s => ⟨runForm i.form s, exec_eq_runForm i s⟩, safeStep, nofun⟩

/-! ## Interrupt requests (R911 to R913) -/

/-- The acceptance condition of R911, which does not look at `halted`. -/
theorem State.canAccept_iff : s.canAccept = true ↔ s.inte = true ∧ s.eiDelay = false := by
  simp [State.canAccept]

/-- An accepted request answers RST n and 11 T-states (R912). -/
theorem hostAct_interrupt_accepted {s : State} (h : s.canAccept = true) (n : Fin 8) :
    hostAct (.interrupt n) s = .next (.accepted (rstInstr n) 11, s.acceptInterrupt n) := by
  simp [hostAct, State.interrupt, h, acceptTstates]

/-- Acceptance changes PC, SP, the two bytes below SP, `inte` and `halted`, and nothing else: on all but PC and these two
control bits it is a push of PC, whose laws give the stored bytes and the frame (R912). -/
theorem State.acceptInterrupt_effect (n : Fin 8) :
    (s.acceptInterrupt n).sp = s.sp - 2 ∧ (s.acceptInterrupt n).readByte (s.sp - 1) = hiByte s.pc ∧
      (s.acceptInterrupt n).readByte (s.sp - 2) = loByte s.pc ∧ (s.acceptInterrupt n).pc.toNat = 8 * n.val ∧
      KeepsData s (s.acceptInterrupt n) [] [s.sp - 1, s.sp - 2] ∧ (s.acceptInterrupt n).eiDelay = s.eiDelay ∧
      (s.acceptInterrupt n).flags = s.flags ∧ (s.acceptInterrupt n).io = s.io := by
  obtain ⟨⟨hdata, -⟩, hflags, hio⟩ := s.push16_frame s.pc
  exact ⟨s.restart_sp n, s.push16_readByte_high s.pc, s.push16_readByte_low s.pc, vector_toNat n, hdata, rfl, hflags, hio⟩

/-- Settles O50: the condition decides between the two answers, and after acceptance `inte` is off. -/
theorem interruptRequest : Obligations.InterruptRequest := by
  intro n m s
  rw [← s.canAccept_iff]
  refine ⟨fun hrefused => hostAct_interrupt_refused (Bool.eq_false_of_not_eq_true hrefused) n, fun haccepted => ?_⟩
  obtain ⟨-, hdelay⟩ := s.canAccept_iff.mp haccepted
  obtain ⟨hsp, hhigh, hlow, hpc, hdata, hkept, hflags, hio⟩ := s.acceptInterrupt_effect n
  exact ⟨s.acceptInterrupt n, hostAct_interrupt_accepted haccepted n, rfl, rfl, hkept.trans hdelay, hsp, hhigh, hlow, hpc,
    hdata, hflags, hio, hostAct_interrupt_refused (s.canAccept_acceptInterrupt n) m⟩

end Sys2Proof.Machine
end

section
/-! Reset and hazards (R1002, R1032): what the host's reset leaves, and when a request is accepted after EI. -/

namespace Sys2Proof.Machine

variable {s t : State}

/-! ## The host's reset (R1002) -/

/-- Settles O54: reset makes the state of construction around the memory and the parameters it finds, and the history is put
back. -/
theorem hostResetKeepsMemory : Obligations.HostResetKeepsMemory := by
  intro s
  have hregs : ∀ r, s.hostReset.getReg r = 0 := State.initial_getReg (p := s.params) s.mem
  exact ⟨s.hostReset, rfl, rfl, hregs, Flags.pack_reset, rfl, rfl, rfl, rfl, rfl, rfl, rfl⟩

/-! ## What a running step leaves of `inte` and `ei_delay` (R811, R812, R820) -/

theorem eq_retire_of_step (hrunning : s.halted = false) (hstep : step s = .next t) :
    t = (runForm s.fetch.form s).retire s.fetch := by
  rw [step_running s hrunning] at hstep
  exact (Host.Outcome.next.inj hstep).symm

/-- After an EI the end of the step writes the `ei_delay` that EI has written already. -/
theorem eq_opEi_of_step (hrunning : s.halted = false) (hfetch : s.fetch = .ei) (hstep : step s = .next t) :
    t = opEi s := by
  rw [eq_retire_of_step hrunning hstep, hfetch]
  rfl

theorem opEi_canAccept (s : State) : (opEi s).canAccept = !s.params.eiDelay := rfl

theorem canAccept_of_step_di (hrunning : s.halted = false) (hfetch : s.fetch = .di) (hstep : step s = .next t) :
    t.canAccept = false := by
  rw [eq_retire_of_step hrunning hstep, hfetch]
  exact State.canAccept_of_inte rfl

/-- Any other instruction keeps `inte`, and the end of its step clears `ei_delay`. -/
theorem canAccept_of_step_of_ne (hrunning : s.halted = false) (hei : s.fetch ≠ .ei) (hdi : s.fetch ≠ .di)
    (hstep : step s = .next t) : t.canAccept = s.inte := by
  have hinte : (runForm s.fetch.form s).inte = s.inte := runForm_inte s (form_ne hei) (form_ne hdi)
  rw [eq_retire_of_step hrunning hstep, State.canAccept, State.retire_inte, State.retire_eiDelay, if_neg hei, hinte]
  exact Bool.and_true _

/-- Settles O51: the state after the EI step is that of `opEi`, which is running with the same parameters, so that the second
step is one of a running core and the three laws above say what it leaves. -/
theorem eiDelaysOneInstruction : Obligations.EiDelaysOneInstruction := by
  intro s t u hrunning hfetch hstep hstep'
  obtain rfl : t = opEi s := eq_opEi_of_step hrunning hfetch hstep
  have hrunning' : (opEi s).halted = false := hrunning
  refine ⟨rfl, opEi_canAccept s, fun hei => ?_, fun hdi => canAccept_of_step_di hrunning' hdi hstep', fun hei hdi => ?_⟩
  · obtain rfl : u = opEi (opEi s) := eq_opEi_of_step hrunning' hei hstep'
    exact opEi_canAccept (opEi s)
  · exact canAccept_of_step_of_ne hrunning' hei hdi hstep'

end Sys2Proof.Machine
end

section
/-! The canonical form of memory (log entry 8; R200, R240): it holds at reset, the bytes that a memory reads determine it,
and every step and every operation of the host keeps it, and the parameters (log entries 2 and 3), on the way. -/

namespace Sys2Proof.Machine

/-! ## At reset (R240) -/

/-- Settles O12: no cell is listed at reset. -/
theorem resetMemoryIsCanonical : Obligations.ResetMemoryIsCanonical := Memory.wf_reset

/-! ## A canonical memory is its bytes (R200) -/

theorem Memory.wfFrom_cons_iff {m : Memory} {a lo : Nat} {v : Byte} :
    Memory.wfFrom ((a, v) :: m) lo = true ↔
      lo ≤ a ∧ a < 65536 ∧ v ≠ Memory.unlisted ∧ m.wfFrom (a + 1) = true := by
  simp [Memory.wfFrom, and_assoc]

theorem Memory.readCell_cons_same (m : Memory) (a : Nat) (v : Byte) : Memory.readCell ((a, v) :: m) a = v := if_pos rfl

theorem Memory.readCell_cons_ne (m : Memory) {a x : Nat} (v : Byte) (h : a ≠ x) :
    Memory.readCell ((a, v) :: m) x = m.readCell x := if_neg h

/-- Cells at rising addresses list nothing below the first of them. -/
theorem Memory.readCell_of_lt {m : Memory} {lo x : Nat} (hm : m.wfFrom lo = true) (hx : x < lo) :
    m.readCell x = Memory.unlisted := by
  induction m generalizing lo with
  | nil => rfl
  | cons cell m ih =>
    obtain ⟨a, v⟩ := cell
    obtain ⟨hlo, -, -, hrest⟩ := Memory.wfFrom_cons_iff.mp hm
    rw [Memory.readCell_cons_ne m v (by omega)]
    exact ih hrest (by omega)

/-- A listed address is not below the first one. -/
theorem Memory.le_of_readCell_ne {m : Memory} {lo a x : Nat} {v : Byte} (hm : Memory.wfFrom ((a, v) :: m) lo = true)
    (hx : Memory.readCell ((a, v) :: m) x ≠ Memory.unlisted) : a ≤ x := by
  obtain ⟨-, hcell⟩ := Memory.wfFrom_cons_iff.mp hm
  exact Nat.le_of_not_lt fun hlt => hx (Memory.readCell_of_lt (Memory.wfFrom_cons_iff.mpr ⟨le_rfl, hcell⟩) hlt)

/-- Cells in canonical form that read alike are the same: each list's first cell is listed in the other, so that neither
address is below the other; and what reads alike with the first cell reads alike without it. -/
theorem Memory.eq_of_readCell_eq {m n : Memory} {lo : Nat} (hm : m.wfFrom lo = true) (hn : n.wfFrom lo = true)
    (h : ∀ x < 65536, m.readCell x = n.readCell x) : m = n := by
  induction m generalizing n lo with
  | nil =>
    cases n with
    | nil => rfl
    | cons cell n =>
      obtain ⟨b, w⟩ := cell
      obtain ⟨-, hb, hw, -⟩ := Memory.wfFrom_cons_iff.mp hn
      exact absurd ((h b hb).trans (Memory.readCell_cons_same n b w)).symm hw
  | cons cell m ih =>
    obtain ⟨a, v⟩ := cell
    obtain ⟨-, ha, hv, hmrest⟩ := Memory.wfFrom_cons_iff.mp hm
    have hna : n.readCell a = v := (h a ha).symm.trans (Memory.readCell_cons_same m a v)
    cases n with
    | nil => exact absurd hna.symm hv
    | cons cell n =>
      obtain ⟨b, w⟩ := cell
      obtain ⟨-, hb, hw, hnrest⟩ := Memory.wfFrom_cons_iff.mp hn
      have hmb : Memory.readCell ((a, v) :: m) b = w := (h b hb).trans (Memory.readCell_cons_same n b w)
      obtain rfl : a = b :=
        Nat.le_antisymm (Memory.le_of_readCell_ne hm (hmb ▸ hw)) (Memory.le_of_readCell_ne hn (hna ▸ hv))
      obtain rfl : v = w := (Memory.readCell_cons_same m a v).symm.trans hmb
      refine congrArg (List.cons _) (ih hmrest hnrest fun x hx => ?_)
      by_cases hax : a = x
      · rw [Memory.readCell_of_lt hmrest (by omega), Memory.readCell_of_lt hnrest (by omega)]
      · rw [← Memory.readCell_cons_ne m v hax, h x hx, Memory.readCell_cons_ne n v hax]

/-- Settles O14: an address below 65536 is that of a word. -/
theorem canonicalMemoriesAreTheirBytes : Obligations.CanonicalMemoriesAreTheirBytes :=
  fun _ _ hm hn hread => Memory.eq_of_readCell_eq hm hn fun x hx => hread (BitVec.ofNatLT x hx)

/-! ## What a step keeps (R820, R822) -/

variable {s t u : State}

/-- `t` comes from `s` with the parameters kept, and with the canonical form of memory kept if `s` has it. -/
def KeepsFormAndParams (s t : State) : Prop := (CanonicalMemory s → CanonicalMemory t) ∧ t.params = s.params

theorem KeepsFormAndParams.refl (s : State) : KeepsFormAndParams s s := ⟨id, rfl⟩

theorem KeepsFormAndParams.trans (h : KeepsFormAndParams s t) (k : KeepsFormAndParams t u) : KeepsFormAndParams s u := by
  obtain ⟨hmem, hparams⟩ := h
  obtain ⟨kmem, kparams⟩ := k
  exact ⟨kmem ∘ hmem, kparams.trans hparams⟩

/-- Memory changes by writes of bytes alone, and every write keeps the canonical form. -/
theorem KeepsFormAndParams.of_applyWrites (writes : List (Word × Byte)) (hmem : t.mem = s.mem.applyWrites writes)
    (hparams : t.params = s.params) : KeepsFormAndParams s t := by
  refine ⟨fun hs => ?_, hparams⟩
  rw [CanonicalMemory, hmem]
  exact Memory.wf_applyWrites writes s.mem hs

variable (s)

theorem State.dst8_params (x : Operand8) (v : Byte) : (s.dst8 x v).params = s.params := by
  obtain ⟨-, -, -, -, -, -, -, hparams⟩ := s.dst8_keeps x v
  exact hparams

/-- No instruction changes the parameters (log entry 2). -/
theorem runForm_params (f : Form) : (runForm f s).params = s.params := by
  cases f with
  | movRR dst _ | movRM dst | mviR dst _ => exact State.setReg_params _ dst _
  | inr x | dcr x => exact State.dst8_params _ x _
  | lxi rp _ | inx rp | dcx rp => cases rp <;> rfl
  | pop rp => cases rp <;> rfl
  | jcc _ _ | ccc _ _ | rcc _ => exact (apply_ite State.params _ _ _).trans (ite_self _)
  | _ => rfl

variable {s}

/-- A halted step keeps its state; a running one writes the bytes that the fetched instruction lists. -/
theorem keepsFormAndParams_of_step (h : step s = .next t) : KeepsFormAndParams s t := by
  cases hhalted : s.halted with
  | true =>
    rw [step_halted s hhalted, Host.Outcome.next.injEq] at h
    exact h ▸ .refl s
  | false =>
    rw [eq_retire_of_step hhalted h]
    exact .of_applyWrites (writesOf (Form.accesses s.fetch.form s)) (runForm_mem s _) (runForm_params s _)

/-- Settles O11: what a step does to memory is a list of writes. -/
theorem stepKeepsCanonicalMemory : Obligations.StepKeepsCanonicalMemory := by
  intro s t hs hstep
  obtain ⟨hmem, -⟩ := keepsFormAndParams_of_step hstep
  exact hmem hs

/-! ## What the host's operations keep (R830) -/

variable {act : HostAction} {reply : HostReply}

/-- The host's step answers with the state of a step. -/
theorem step_of_hostAct (h : hostAct .step s = .next (reply, t)) : step s = .next t := by
  obtain ⟨t', ht'⟩ := safeStep s
  rw [hostAct_step ht'] at h
  cases h
  exact ht'

variable (s)

/-- A set of a pair writes no byte of memory and no parameter. -/
theorem keepsFormAndParams_setPair (rp : RegPair) (v : Word) : KeepsFormAndParams s (s.setPair rp v) := by
  cases rp <;> exact .of_applyWrites [] rfl rfl

/-- A request that is accepted pushes PC; a refused one leaves the state (R911, R912). -/
theorem keepsFormAndParams_interrupt (n : Fin 8) : KeepsFormAndParams s (s.interrupt n) := by
  unfold State.interrupt
  split
  · exact .of_applyWrites (writesOf (pushWrite s.sp s.pc)) (s.push16_mem_eq_applyWrites s.pc) rfl
  · exact .refl s

variable {s}

/-- A get leaves the state, a set of a register or of the flags its memory, and a poke writes its bytes. -/
theorem keepsFormAndParams_of_hostAct (h : hostAct act s = .next (reply, t)) : KeepsFormAndParams s t := by
  cases act with
  | step => exact keepsFormAndParams_of_step (step_of_hostAct h)
  | interrupt n =>
    cases h
    exact keepsFormAndParams_interrupt s n
  | setPair rp v =>
    cases h
    exact keepsFormAndParams_setPair s rp v
  | setReg r v =>
    cases h
    exact .of_applyWrites [] (s.setReg_mem r v) (s.setReg_params r v)
  | reset | setPc _ | setFlags _ =>
    cases h
    exact .of_applyWrites [] rfl rfl
  | pokeByte addr v =>
    cases h
    exact .of_applyWrites [(addr, v)] rfl rfl
  | pokeWord addr v =>
    cases h
    exact .of_applyWrites [(addr, loByte v), (addr + 1, hiByte v)] rfl rfl
  | getReg _ | getPair _ | getPc | getFlags | peekByte _ | peekWord _ | queryHalted =>
    cases h
    exact .refl s

/-- A sequence of operations that has an answer is a first operation and the sequence after it. -/
theorem hostTrace_cons_next {rest : List HostAction} {replies : List HostReply}
    (h : hostTrace (act :: rest) s = .next (replies, u)) :
    ∃ reply t replies', hostAct act s = .next (reply, t) ∧ hostTrace rest t = .next (replies', u) := by
  rw [hostTrace] at h
  split at h
  · next reply t hact =>
    split at h
    · next replies' _ hrest =>
      cases h
      exact ⟨reply, t, replies', hact, hrest⟩
    · cases h
    · cases h
  · cases h
  · cases h

theorem keepsFormAndParams_of_hostTrace {acts : List HostAction} {replies : List HostReply}
    (h : hostTrace acts s = .next (replies, t)) : KeepsFormAndParams s t := by
  induction acts generalizing s replies with
  | nil =>
    cases h
    exact .refl _
  | cons act rest ih =>
    obtain ⟨reply, u, replies', hact, hrest⟩ := hostTrace_cons_next h
    exact (keepsFormAndParams_of_hostAct hact).trans (ih hrest)

/-- Settles O13: each operation keeps both, and so does one operation after another. -/
theorem runsKeepMemoryFormAndParameters : Obligations.RunsKeepMemoryFormAndParameters := by
  intro acts s t replies hs htrace
  obtain ⟨hmem, hparams⟩ := keepsFormAndParams_of_hostTrace htrace
  exact ⟨hmem hs, hparams⟩

end Sys2Proof.Machine
end
